-- ==== Sys2Proof/Word.lean ====
section
/-! DEFINITION. The two word types of the machine: 8-bit registers and 16-bit pairs, PC, SP and
addresses (00_scope.md R5, 10_state.md R20 to R24). -/

namespace Sys2Proof

/-- An 8-bit value (R5: general register width). -/
abbrev Byte := BitVec 8

/-- A 16-bit value (R5: register pair, PC and SP width; address width). -/
abbrev Word := BitVec 16

end Sys2Proof
end

