-- ==== Sys2Proof/Config.lean ====
section
/-! DEFINITION. The implementation parameters of 00_scope.md R5 that a model may take as arguments.
They are fixed for a session (10_state.md R43). The state carries them (`State.params`), so that one
step function covers every choice; no step changes them. -/

namespace Sys2Proof

/-- `AND_AC_POLICY` (42_logical.md R180): the auxiliary carry after ANA and ANI. -/
inductive AndAcPolicy where
  | i8080   -- bit 3 of (a OR b), the default
  | clear   -- always 0
  | set     -- always 1
  deriving DecidableEq, Repr

/-- `UNDOC_POLICY` (30_encoding.md R109): what the twelve illegal opcodes do. -/
inductive UndocPolicy where
  | fault   -- UnimplementedOpcode, the default
  | alias8080   -- `alias`: NOP, JMP, RET or CALL
  deriving DecidableEq, Repr

/-- The session parameters (R5, R43). -/
structure Params where
  /-- `T_MID`, the mid-screen threshold in cycles (D11). -/
  tMid : Nat
  /-- `T_END`, the end-of-frame threshold in cycles (D11). -/
  tEnd : Nat
  /-- `INT_ACK_CYCLES`, the cost of an interrupt delivery (D13). -/
  intAckCycles : Nat
  /-- `JCC_NOT_TAKEN_CYCLES`, the cost of a conditional jump not taken (D10). -/
  jccNotTakenCycles : Nat
  /-- `AND_AC_POLICY` (D9). -/
  andAc : AndAcPolicy
  /-- `UNDOC_POLICY` (D8). -/
  undoc : UndocPolicy
  deriving DecidableEq, Repr

/-- The default values of R5. -/
def Params.default : Params where
  tMid := 16667
  tEnd := 33333
  intAckCycles := 0
  jccNotTakenCycles := 10
  andAc := .i8080
  undoc := .fault

/-- The constraint on the thresholds: 0 < T_MID < T_END (92_eei_decisions.md D11). -/
abbrev Params.ok (p : Params) : Prop := 0 < p.tMid ∧ p.tMid < p.tEnd

end Sys2Proof
end

