-- ==== Sys2Proof/Syntax.lean ====
section
/-! DEFINITION. The instruction set as syntax: the register codes, pairs and conditions that opcode fields
name, and `Instr`, one constructor per row of spec/opcode_table.json (244 instructions and the 12 illegal
opcodes of 30_encoding.md R109). -/

namespace Sys2Proof

/-- A 3-bit register code (10_state.md R21): the six general registers, the memory operand M at HL, and A. -/
inductive RegCode where
  | b | c | d | e | h | l | m | a
  deriving DecidableEq, Repr

/-- A 2-bit pair code under the reading of LXI, INX, DCX and DAD (10_state.md R22): 3 is SP. -/
inductive Pair where
  | bc | de | hl | sp
  deriving DecidableEq, Repr

/-- A 2-bit pair code under the reading of PUSH and POP (10_state.md R22): 3 is PSW. -/
inductive StackPair where
  | bc | de | hl | psw
  deriving DecidableEq, Repr

/-- The pairs that LDAX and STAX accept (30_encoding.md R103). -/
inductive AccPair where
  | bc | de
  deriving DecidableEq, Repr

/-- A 3-bit condition code (30_encoding.md R104). -/
inductive Cond where
  | nz | z | nc | c | po | pe | p | m
  deriving DecidableEq, Repr

/-- One constructor per row of spec/opcode_table.json, the F3 rows first, then F2, then F1, each in the
order of the opcode byte (Lean's runtime wants constructors that carry data among the first 244). A constructor of an F2
row carries imm8 (a data byte or a port number), one of an F3 row carries imm16 (30_encoding.md R100, R101). -/
inductive Instr where
  | lxiB (w : Word)
  | lxiD (w : Word)
  | lxiH (w : Word)
  | shld (w : Word)
  | lhld (w : Word)
  | lxiSP (w : Word)
  | sta (w : Word)
  | lda (w : Word)
  | jnz (w : Word)
  | jmp (w : Word)
  | cnz (w : Word)
  | jz (w : Word)
  | illegalCBh (w : Word)
  | cz (w : Word)
  | call (w : Word)
  | jnc (w : Word)
  | cnc (w : Word)
  | jc (w : Word)
  | cc (w : Word)
  | illegalDDh (w : Word)
  | jpo (w : Word)
  | cpo (w : Word)
  | jpe (w : Word)
  | cpe (w : Word)
  | illegalEDh (w : Word)
  | jp (w : Word)
  | cp (w : Word)
  | jm (w : Word)
  | cm (w : Word)
  | illegalFDh (w : Word)
  | mviB (n : Byte)
  | mviC (n : Byte)
  | mviD (n : Byte)
  | mviE (n : Byte)
  | mviH (n : Byte)
  | mviL (n : Byte)
  | mviM (n : Byte)
  | mviA (n : Byte)
  | adi (n : Byte)
  | aci (n : Byte)
  | out (n : Byte)
  | sui (n : Byte)
  | inp (n : Byte)
  | sbi (n : Byte)
  | ani (n : Byte)
  | xri (n : Byte)
  | ori (n : Byte)
  | cpi (n : Byte)
  | nop
  | staxB
  | inxB
  | inrB
  | dcrB
  | rlc
  | illegal08h
  | dadB
  | ldaxB
  | dcxB
  | inrC
  | dcrC
  | rrc
  | illegal10h
  | staxD
  | inxD
  | inrD
  | dcrD
  | ral
  | illegal18h
  | dadD
  | ldaxD
  | dcxD
  | inrE
  | dcrE
  | rar
  | illegal20h
  | inxH
  | inrH
  | dcrH
  | daa
  | illegal28h
  | dadH
  | dcxH
  | inrL
  | dcrL
  | cma
  | illegal30h
  | inxSP
  | inrM
  | dcrM
  | stc
  | illegal38h
  | dadSP
  | dcxSP
  | inrA
  | dcrA
  | cmc
  | movBB
  | movBC
  | movBD
  | movBE
  | movBH
  | movBL
  | movBM
  | movBA
  | movCB
  | movCC
  | movCD
  | movCE
  | movCH
  | movCL
  | movCM
  | movCA
  | movDB
  | movDC
  | movDD
  | movDE
  | movDH
  | movDL
  | movDM
  | movDA
  | movEB
  | movEC
  | movED
  | movEE
  | movEH
  | movEL
  | movEM
  | movEA
  | movHB
  | movHC
  | movHD
  | movHE
  | movHH
  | movHL
  | movHM
  | movHA
  | movLB
  | movLC
  | movLD
  | movLE
  | movLH
  | movLL
  | movLM
  | movLA
  | movMB
  | movMC
  | movMD
  | movME
  | movMH
  | movML
  | hlt
  | movMA
  | movAB
  | movAC
  | movAD
  | movAE
  | movAH
  | movAL
  | movAM
  | movAA
  | addB
  | addC
  | addD
  | addE
  | addH
  | addL
  | addM
  | addA
  | adcB
  | adcC
  | adcD
  | adcE
  | adcH
  | adcL
  | adcM
  | adcA
  | subB
  | subC
  | subD
  | subE
  | subH
  | subL
  | subM
  | subA
  | sbbB
  | sbbC
  | sbbD
  | sbbE
  | sbbH
  | sbbL
  | sbbM
  | sbbA
  | anaB
  | anaC
  | anaD
  | anaE
  | anaH
  | anaL
  | anaM
  | anaA
  | xraB
  | xraC
  | xraD
  | xraE
  | xraH
  | xraL
  | xraM
  | xraA
  | oraB
  | oraC
  | oraD
  | oraE
  | oraH
  | oraL
  | oraM
  | oraA
  | cmpB
  | cmpC
  | cmpD
  | cmpE
  | cmpH
  | cmpL
  | cmpM
  | cmpA
  | rnz
  | popB
  | pushB
  | rst0
  | rz
  | ret
  | rst1
  | rnc
  | popD
  | pushD
  | rst2
  | rc
  | illegalD9h
  | rst3
  | rpo
  | popH
  | xthl
  | pushH
  | rst4
  | rpe
  | pchl
  | xchg
  | rst5
  | rp
  | popPSW
  | di
  | pushPSW
  | rst6
  | rm
  | sphl
  | ei
  | rst7
  deriving DecidableEq, Repr

end Sys2Proof
end

