-- ==== Sys2Proof/WellFormed.lean ====
section
/-! DEFINITION. Well-formedness of an instruction. Every operand's range is in its type (a byte or a 16-bit
word), so one check is left: the instruction is one of the 244 documented ones and not a row of the twelve
illegal opcodes (30_encoding.md R109). -/

namespace Sys2Proof

/-- The row's `status` in spec/opcode_table.json is `documented` (R109: the twelve illegal bytes "are not
instructions of the documented set"). -/
def Instr.documented : Instr → Bool
  | .illegal08h => false
  | .illegal10h => false
  | .illegal18h => false
  | .illegal20h => false
  | .illegal28h => false
  | .illegal30h => false
  | .illegal38h => false
  | .illegalCBh _ => false
  | .illegalD9h => false
  | .illegalDDh _ => false
  | .illegalEDh _ => false
  | .illegalFDh _ => false
  | .nop => true
  | .lxiB _ => true
  | .staxB => true
  | .inxB => true
  | .inrB => true
  | .dcrB => true
  | .mviB _ => true
  | .rlc => true
  | .dadB => true
  | .ldaxB => true
  | .dcxB => true
  | .inrC => true
  | .dcrC => true
  | .mviC _ => true
  | .rrc => true
  | .lxiD _ => true
  | .staxD => true
  | .inxD => true
  | .inrD => true
  | .dcrD => true
  | .mviD _ => true
  | .ral => true
  | .dadD => true
  | .ldaxD => true
  | .dcxD => true
  | .inrE => true
  | .dcrE => true
  | .mviE _ => true
  | .rar => true
  | .lxiH _ => true
  | .shld _ => true
  | .inxH => true
  | .inrH => true
  | .dcrH => true
  | .mviH _ => true
  | .daa => true
  | .dadH => true
  | .lhld _ => true
  | .dcxH => true
  | .inrL => true
  | .dcrL => true
  | .mviL _ => true
  | .cma => true
  | .lxiSP _ => true
  | .sta _ => true
  | .inxSP => true
  | .inrM => true
  | .dcrM => true
  | .mviM _ => true
  | .stc => true
  | .dadSP => true
  | .lda _ => true
  | .dcxSP => true
  | .inrA => true
  | .dcrA => true
  | .mviA _ => true
  | .cmc => true
  | .movBB => true
  | .movBC => true
  | .movBD => true
  | .movBE => true
  | .movBH => true
  | .movBL => true
  | .movBM => true
  | .movBA => true
  | .movCB => true
  | .movCC => true
  | .movCD => true
  | .movCE => true
  | .movCH => true
  | .movCL => true
  | .movCM => true
  | .movCA => true
  | .movDB => true
  | .movDC => true
  | .movDD => true
  | .movDE => true
  | .movDH => true
  | .movDL => true
  | .movDM => true
  | .movDA => true
  | .movEB => true
  | .movEC => true
  | .movED => true
  | .movEE => true
  | .movEH => true
  | .movEL => true
  | .movEM => true
  | .movEA => true
  | .movHB => true
  | .movHC => true
  | .movHD => true
  | .movHE => true
  | .movHH => true
  | .movHL => true
  | .movHM => true
  | .movHA => true
  | .movLB => true
  | .movLC => true
  | .movLD => true
  | .movLE => true
  | .movLH => true
  | .movLL => true
  | .movLM => true
  | .movLA => true
  | .movMB => true
  | .movMC => true
  | .movMD => true
  | .movME => true
  | .movMH => true
  | .movML => true
  | .hlt => true
  | .movMA => true
  | .movAB => true
  | .movAC => true
  | .movAD => true
  | .movAE => true
  | .movAH => true
  | .movAL => true
  | .movAM => true
  | .movAA => true
  | .addB => true
  | .addC => true
  | .addD => true
  | .addE => true
  | .addH => true
  | .addL => true
  | .addM => true
  | .addA => true
  | .adcB => true
  | .adcC => true
  | .adcD => true
  | .adcE => true
  | .adcH => true
  | .adcL => true
  | .adcM => true
  | .adcA => true
  | .subB => true
  | .subC => true
  | .subD => true
  | .subE => true
  | .subH => true
  | .subL => true
  | .subM => true
  | .subA => true
  | .sbbB => true
  | .sbbC => true
  | .sbbD => true
  | .sbbE => true
  | .sbbH => true
  | .sbbL => true
  | .sbbM => true
  | .sbbA => true
  | .anaB => true
  | .anaC => true
  | .anaD => true
  | .anaE => true
  | .anaH => true
  | .anaL => true
  | .anaM => true
  | .anaA => true
  | .xraB => true
  | .xraC => true
  | .xraD => true
  | .xraE => true
  | .xraH => true
  | .xraL => true
  | .xraM => true
  | .xraA => true
  | .oraB => true
  | .oraC => true
  | .oraD => true
  | .oraE => true
  | .oraH => true
  | .oraL => true
  | .oraM => true
  | .oraA => true
  | .cmpB => true
  | .cmpC => true
  | .cmpD => true
  | .cmpE => true
  | .cmpH => true
  | .cmpL => true
  | .cmpM => true
  | .cmpA => true
  | .rnz => true
  | .popB => true
  | .jnz _ => true
  | .jmp _ => true
  | .cnz _ => true
  | .pushB => true
  | .adi _ => true
  | .rst0 => true
  | .rz => true
  | .ret => true
  | .jz _ => true
  | .cz _ => true
  | .call _ => true
  | .aci _ => true
  | .rst1 => true
  | .rnc => true
  | .popD => true
  | .jnc _ => true
  | .out _ => true
  | .cnc _ => true
  | .pushD => true
  | .sui _ => true
  | .rst2 => true
  | .rc => true
  | .jc _ => true
  | .inp _ => true
  | .cc _ => true
  | .sbi _ => true
  | .rst3 => true
  | .rpo => true
  | .popH => true
  | .jpo _ => true
  | .xthl => true
  | .cpo _ => true
  | .pushH => true
  | .ani _ => true
  | .rst4 => true
  | .rpe => true
  | .pchl => true
  | .jpe _ => true
  | .xchg => true
  | .cpe _ => true
  | .xri _ => true
  | .rst5 => true
  | .rp => true
  | .popPSW => true
  | .jp _ => true
  | .di => true
  | .cp _ => true
  | .pushPSW => true
  | .ori _ => true
  | .rst6 => true
  | .rm => true
  | .sphl => true
  | .jm _ => true
  | .ei => true
  | .cm _ => true
  | .cpi _ => true
  | .rst7 => true

/-- A well-formed instruction: a documented one. -/
abbrev Instr.WellFormed (i : Instr) : Prop := i.documented = true

end Sys2Proof
end

