-- ==== Sys2Proof/Decode.lean ====
section
/-! DEFINITION. Encoding and decoding (30_encoding.md R100 to R113): byte halves of a word, the opcode fields,
the opcode map, the decoder over bytes, the encoder, and the families that opcode fields select from. -/

namespace Sys2Proof

/-- Bits 7:0 of a word. -/
def lowByte (w : Word) : Byte := w.setWidth 8

/-- Bits 15:8 of a word. -/
def highByte (w : Word) : Byte := (w >>> 8).setWidth 8

/-- `hi:lo`, the 16-bit concatenation (00_scope.md R6). -/
def joinBytes (hi lo : Byte) : Word := hi ++ lo

/-! ## Opcode fields -/

/-- The bits of a register code (R102: 000 B, 001 C, 010 D, 011 E, 100 H, 101 L, 110 M, 111 A). -/
def RegCode.bits : RegCode → BitVec 3
  | .b => 0b000 | .c => 0b001 | .d => 0b010 | .e => 0b011
  | .h => 0b100 | .l => 0b101 | .m => 0b110 | .a => 0b111

/-- The bits of a pair code in LXI, INX, DCX and DAD (R103). -/
def Pair.bits : Pair → BitVec 2
  | .bc => 0b00 | .de => 0b01 | .hl => 0b10 | .sp => 0b11

/-- The bits of a pair code in PUSH and POP (R103). -/
def StackPair.bits : StackPair → BitVec 2
  | .bc => 0b00 | .de => 0b01 | .hl => 0b10 | .psw => 0b11

/-- The one bit r = op[4] that LDAX and STAX take of a pair code (R103, R140, R141). -/
def AccPair.bit : AccPair → BitVec 1
  | .bc => 0b0 | .de => 0b1

/-- The bits of a condition code (R104). -/
def Cond.bits : Cond → BitVec 3
  | .nz => 0b000 | .z => 0b001 | .nc => 0b010 | .c => 0b011
  | .po => 0b100 | .pe => 0b101 | .p => 0b110 | .m => 0b111

/-! ## Formats and the opcode map -/

/-- What an opcode byte selects: an instruction of format F1, F2 or F3, waiting for its operand bytes (R100). -/
inductive Form where
  | f1 (i : Instr)
  | f2 (mk : Byte → Instr)
  | f3 (mk : Word → Instr)

/-- The length in bytes of a format (R100). -/
def Form.length : Form → Nat
  | .f1 _ => 1
  | .f2 _ => 2
  | .f3 _ => 3

/-- Row 0 of the opcode map (R107). -/
def mapRow0 : List Form :=
  [.f1 .nop, .f3 .lxiB, .f1 .staxB, .f1 .inxB,
   .f1 .inrB, .f1 .dcrB, .f2 .mviB, .f1 .rlc,
   .f1 .illegal08h, .f1 .dadB, .f1 .ldaxB, .f1 .dcxB,
   .f1 .inrC, .f1 .dcrC, .f2 .mviC, .f1 .rrc]

/-- Row 1 of the opcode map (R107). -/
def mapRow1 : List Form :=
  [.f1 .illegal10h, .f3 .lxiD, .f1 .staxD, .f1 .inxD,
   .f1 .inrD, .f1 .dcrD, .f2 .mviD, .f1 .ral,
   .f1 .illegal18h, .f1 .dadD, .f1 .ldaxD, .f1 .dcxD,
   .f1 .inrE, .f1 .dcrE, .f2 .mviE, .f1 .rar]

/-- Row 2 of the opcode map (R107). -/
def mapRow2 : List Form :=
  [.f1 .illegal20h, .f3 .lxiH, .f3 .shld, .f1 .inxH,
   .f1 .inrH, .f1 .dcrH, .f2 .mviH, .f1 .daa,
   .f1 .illegal28h, .f1 .dadH, .f3 .lhld, .f1 .dcxH,
   .f1 .inrL, .f1 .dcrL, .f2 .mviL, .f1 .cma]

/-- Row 3 of the opcode map (R107). -/
def mapRow3 : List Form :=
  [.f1 .illegal30h, .f3 .lxiSP, .f3 .sta, .f1 .inxSP,
   .f1 .inrM, .f1 .dcrM, .f2 .mviM, .f1 .stc,
   .f1 .illegal38h, .f1 .dadSP, .f3 .lda, .f1 .dcxSP,
   .f1 .inrA, .f1 .dcrA, .f2 .mviA, .f1 .cmc]

/-- Row 4 of the opcode map (R107). -/
def mapRow4 : List Form :=
  [.f1 .movBB, .f1 .movBC, .f1 .movBD, .f1 .movBE,
   .f1 .movBH, .f1 .movBL, .f1 .movBM, .f1 .movBA,
   .f1 .movCB, .f1 .movCC, .f1 .movCD, .f1 .movCE,
   .f1 .movCH, .f1 .movCL, .f1 .movCM, .f1 .movCA]

/-- Row 5 of the opcode map (R107). -/
def mapRow5 : List Form :=
  [.f1 .movDB, .f1 .movDC, .f1 .movDD, .f1 .movDE,
   .f1 .movDH, .f1 .movDL, .f1 .movDM, .f1 .movDA,
   .f1 .movEB, .f1 .movEC, .f1 .movED, .f1 .movEE,
   .f1 .movEH, .f1 .movEL, .f1 .movEM, .f1 .movEA]

/-- Row 6 of the opcode map (R107). -/
def mapRow6 : List Form :=
  [.f1 .movHB, .f1 .movHC, .f1 .movHD, .f1 .movHE,
   .f1 .movHH, .f1 .movHL, .f1 .movHM, .f1 .movHA,
   .f1 .movLB, .f1 .movLC, .f1 .movLD, .f1 .movLE,
   .f1 .movLH, .f1 .movLL, .f1 .movLM, .f1 .movLA]

/-- Row 7 of the opcode map (R107). -/
def mapRow7 : List Form :=
  [.f1 .movMB, .f1 .movMC, .f1 .movMD, .f1 .movME,
   .f1 .movMH, .f1 .movML, .f1 .hlt, .f1 .movMA,
   .f1 .movAB, .f1 .movAC, .f1 .movAD, .f1 .movAE,
   .f1 .movAH, .f1 .movAL, .f1 .movAM, .f1 .movAA]

/-- Row 8 of the opcode map (R107). -/
def mapRow8 : List Form :=
  [.f1 .addB, .f1 .addC, .f1 .addD, .f1 .addE,
   .f1 .addH, .f1 .addL, .f1 .addM, .f1 .addA,
   .f1 .adcB, .f1 .adcC, .f1 .adcD, .f1 .adcE,
   .f1 .adcH, .f1 .adcL, .f1 .adcM, .f1 .adcA]

/-- Row 9 of the opcode map (R107). -/
def mapRow9 : List Form :=
  [.f1 .subB, .f1 .subC, .f1 .subD, .f1 .subE,
   .f1 .subH, .f1 .subL, .f1 .subM, .f1 .subA,
   .f1 .sbbB, .f1 .sbbC, .f1 .sbbD, .f1 .sbbE,
   .f1 .sbbH, .f1 .sbbL, .f1 .sbbM, .f1 .sbbA]

/-- Row A of the opcode map (R107). -/
def mapRowA : List Form :=
  [.f1 .anaB, .f1 .anaC, .f1 .anaD, .f1 .anaE,
   .f1 .anaH, .f1 .anaL, .f1 .anaM, .f1 .anaA,
   .f1 .xraB, .f1 .xraC, .f1 .xraD, .f1 .xraE,
   .f1 .xraH, .f1 .xraL, .f1 .xraM, .f1 .xraA]

/-- Row B of the opcode map (R107). -/
def mapRowB : List Form :=
  [.f1 .oraB, .f1 .oraC, .f1 .oraD, .f1 .oraE,
   .f1 .oraH, .f1 .oraL, .f1 .oraM, .f1 .oraA,
   .f1 .cmpB, .f1 .cmpC, .f1 .cmpD, .f1 .cmpE,
   .f1 .cmpH, .f1 .cmpL, .f1 .cmpM, .f1 .cmpA]

/-- Row C of the opcode map (R107). -/
def mapRowC : List Form :=
  [.f1 .rnz, .f1 .popB, .f3 .jnz, .f3 .jmp,
   .f3 .cnz, .f1 .pushB, .f2 .adi, .f1 .rst0,
   .f1 .rz, .f1 .ret, .f3 .jz, .f3 .illegalCBh,
   .f3 .cz, .f3 .call, .f2 .aci, .f1 .rst1]

/-- Row D of the opcode map (R107). -/
def mapRowD : List Form :=
  [.f1 .rnc, .f1 .popD, .f3 .jnc, .f2 .out,
   .f3 .cnc, .f1 .pushD, .f2 .sui, .f1 .rst2,
   .f1 .rc, .f1 .illegalD9h, .f3 .jc, .f2 .inp,
   .f3 .cc, .f3 .illegalDDh, .f2 .sbi, .f1 .rst3]

/-- Row E of the opcode map (R107). -/
def mapRowE : List Form :=
  [.f1 .rpo, .f1 .popH, .f3 .jpo, .f1 .xthl,
   .f3 .cpo, .f1 .pushH, .f2 .ani, .f1 .rst4,
   .f1 .rpe, .f1 .pchl, .f3 .jpe, .f1 .xchg,
   .f3 .cpe, .f3 .illegalEDh, .f2 .xri, .f1 .rst5]

/-- Row F of the opcode map (R107). -/
def mapRowF : List Form :=
  [.f1 .rp, .f1 .popPSW, .f3 .jp, .f1 .di,
   .f3 .cp, .f1 .pushPSW, .f2 .ori, .f1 .rst6,
   .f1 .rm, .f1 .sphl, .f3 .jm, .f1 .ei,
   .f3 .cm, .f3 .illegalFDh, .f2 .cpi, .f1 .rst7]

/-- The opcode map (R107): row = high hex digit, column = low hex digit. -/
def opcodeMap : List (List Form) :=
  [mapRow0, mapRow1, mapRow2, mapRow3, mapRow4, mapRow5, mapRow6, mapRow7] ++
  [mapRow8, mapRow9, mapRowA, mapRowB, mapRowC, mapRowD, mapRowE, mapRowF]

/-- The form an opcode byte selects (R112: each of the 256 byte values selects exactly one row). -/
def formOf (op : Byte) : Form :=
  (opcodeMap.getD (op.toNat / 16) []).getD (op.toNat % 16) (.f1 .nop)

/-! ## The decoder -/

/-- Why a list of bytes is no instruction. Every opcode byte is decoded (R112), so only missing bytes are refused. -/
inductive DecodeError where
  /-- there is no opcode byte -/
  | empty
  /-- the opcode byte `op` needs more operand bytes than follow it -/
  | truncated (op : Byte)
  deriving DecidableEq, Repr

/-- Decode one instruction from a list of bytes; the rest of the list is returned. imm16 is low byte first (R101). -/
def decode : List Byte → Except DecodeError (Instr × List Byte)
  | [] => .error .empty
  | op :: rest =>
    match formOf op, rest with
    | .f1 i, rest => .ok (i, rest)
    | .f2 mk, n :: rest => .ok (mk n, rest)
    | .f3 mk, lo :: hi :: rest => .ok (mk (joinBytes hi lo), rest)
    | _, _ => .error (.truncated op)

/-- The instruction in three bytes, of which only those of the instruction's length matter (R100, R101, R110). -/
def decodeBytes (op b1 b2 : Byte) : Instr :=
  match formOf op with
  | .f1 i => i
  | .f2 mk => mk b1
  | .f3 mk => mk (joinBytes b2 b1)

/-! ## The encoder -/

/-- The bytes of an instruction, in memory order (R100, R101; one line per row of spec/opcode_table.json). -/
def encode : Instr → List Byte
  | .nop => [0x00]
  | .lxiB w => [0x01, lowByte w, highByte w]
  | .staxB => [0x02]
  | .inxB => [0x03]
  | .inrB => [0x04]
  | .dcrB => [0x05]
  | .mviB n => [0x06, n]
  | .rlc => [0x07]
  | .illegal08h => [0x08]
  | .dadB => [0x09]
  | .ldaxB => [0x0A]
  | .dcxB => [0x0B]
  | .inrC => [0x0C]
  | .dcrC => [0x0D]
  | .mviC n => [0x0E, n]
  | .rrc => [0x0F]
  | .illegal10h => [0x10]
  | .lxiD w => [0x11, lowByte w, highByte w]
  | .staxD => [0x12]
  | .inxD => [0x13]
  | .inrD => [0x14]
  | .dcrD => [0x15]
  | .mviD n => [0x16, n]
  | .ral => [0x17]
  | .illegal18h => [0x18]
  | .dadD => [0x19]
  | .ldaxD => [0x1A]
  | .dcxD => [0x1B]
  | .inrE => [0x1C]
  | .dcrE => [0x1D]
  | .mviE n => [0x1E, n]
  | .rar => [0x1F]
  | .illegal20h => [0x20]
  | .lxiH w => [0x21, lowByte w, highByte w]
  | .shld w => [0x22, lowByte w, highByte w]
  | .inxH => [0x23]
  | .inrH => [0x24]
  | .dcrH => [0x25]
  | .mviH n => [0x26, n]
  | .daa => [0x27]
  | .illegal28h => [0x28]
  | .dadH => [0x29]
  | .lhld w => [0x2A, lowByte w, highByte w]
  | .dcxH => [0x2B]
  | .inrL => [0x2C]
  | .dcrL => [0x2D]
  | .mviL n => [0x2E, n]
  | .cma => [0x2F]
  | .illegal30h => [0x30]
  | .lxiSP w => [0x31, lowByte w, highByte w]
  | .sta w => [0x32, lowByte w, highByte w]
  | .inxSP => [0x33]
  | .inrM => [0x34]
  | .dcrM => [0x35]
  | .mviM n => [0x36, n]
  | .stc => [0x37]
  | .illegal38h => [0x38]
  | .dadSP => [0x39]
  | .lda w => [0x3A, lowByte w, highByte w]
  | .dcxSP => [0x3B]
  | .inrA => [0x3C]
  | .dcrA => [0x3D]
  | .mviA n => [0x3E, n]
  | .cmc => [0x3F]
  | .movBB => [0x40]
  | .movBC => [0x41]
  | .movBD => [0x42]
  | .movBE => [0x43]
  | .movBH => [0x44]
  | .movBL => [0x45]
  | .movBM => [0x46]
  | .movBA => [0x47]
  | .movCB => [0x48]
  | .movCC => [0x49]
  | .movCD => [0x4A]
  | .movCE => [0x4B]
  | .movCH => [0x4C]
  | .movCL => [0x4D]
  | .movCM => [0x4E]
  | .movCA => [0x4F]
  | .movDB => [0x50]
  | .movDC => [0x51]
  | .movDD => [0x52]
  | .movDE => [0x53]
  | .movDH => [0x54]
  | .movDL => [0x55]
  | .movDM => [0x56]
  | .movDA => [0x57]
  | .movEB => [0x58]
  | .movEC => [0x59]
  | .movED => [0x5A]
  | .movEE => [0x5B]
  | .movEH => [0x5C]
  | .movEL => [0x5D]
  | .movEM => [0x5E]
  | .movEA => [0x5F]
  | .movHB => [0x60]
  | .movHC => [0x61]
  | .movHD => [0x62]
  | .movHE => [0x63]
  | .movHH => [0x64]
  | .movHL => [0x65]
  | .movHM => [0x66]
  | .movHA => [0x67]
  | .movLB => [0x68]
  | .movLC => [0x69]
  | .movLD => [0x6A]
  | .movLE => [0x6B]
  | .movLH => [0x6C]
  | .movLL => [0x6D]
  | .movLM => [0x6E]
  | .movLA => [0x6F]
  | .movMB => [0x70]
  | .movMC => [0x71]
  | .movMD => [0x72]
  | .movME => [0x73]
  | .movMH => [0x74]
  | .movML => [0x75]
  | .hlt => [0x76]
  | .movMA => [0x77]
  | .movAB => [0x78]
  | .movAC => [0x79]
  | .movAD => [0x7A]
  | .movAE => [0x7B]
  | .movAH => [0x7C]
  | .movAL => [0x7D]
  | .movAM => [0x7E]
  | .movAA => [0x7F]
  | .addB => [0x80]
  | .addC => [0x81]
  | .addD => [0x82]
  | .addE => [0x83]
  | .addH => [0x84]
  | .addL => [0x85]
  | .addM => [0x86]
  | .addA => [0x87]
  | .adcB => [0x88]
  | .adcC => [0x89]
  | .adcD => [0x8A]
  | .adcE => [0x8B]
  | .adcH => [0x8C]
  | .adcL => [0x8D]
  | .adcM => [0x8E]
  | .adcA => [0x8F]
  | .subB => [0x90]
  | .subC => [0x91]
  | .subD => [0x92]
  | .subE => [0x93]
  | .subH => [0x94]
  | .subL => [0x95]
  | .subM => [0x96]
  | .subA => [0x97]
  | .sbbB => [0x98]
  | .sbbC => [0x99]
  | .sbbD => [0x9A]
  | .sbbE => [0x9B]
  | .sbbH => [0x9C]
  | .sbbL => [0x9D]
  | .sbbM => [0x9E]
  | .sbbA => [0x9F]
  | .anaB => [0xA0]
  | .anaC => [0xA1]
  | .anaD => [0xA2]
  | .anaE => [0xA3]
  | .anaH => [0xA4]
  | .anaL => [0xA5]
  | .anaM => [0xA6]
  | .anaA => [0xA7]
  | .xraB => [0xA8]
  | .xraC => [0xA9]
  | .xraD => [0xAA]
  | .xraE => [0xAB]
  | .xraH => [0xAC]
  | .xraL => [0xAD]
  | .xraM => [0xAE]
  | .xraA => [0xAF]
  | .oraB => [0xB0]
  | .oraC => [0xB1]
  | .oraD => [0xB2]
  | .oraE => [0xB3]
  | .oraH => [0xB4]
  | .oraL => [0xB5]
  | .oraM => [0xB6]
  | .oraA => [0xB7]
  | .cmpB => [0xB8]
  | .cmpC => [0xB9]
  | .cmpD => [0xBA]
  | .cmpE => [0xBB]
  | .cmpH => [0xBC]
  | .cmpL => [0xBD]
  | .cmpM => [0xBE]
  | .cmpA => [0xBF]
  | .rnz => [0xC0]
  | .popB => [0xC1]
  | .jnz w => [0xC2, lowByte w, highByte w]
  | .jmp w => [0xC3, lowByte w, highByte w]
  | .cnz w => [0xC4, lowByte w, highByte w]
  | .pushB => [0xC5]
  | .adi n => [0xC6, n]
  | .rst0 => [0xC7]
  | .rz => [0xC8]
  | .ret => [0xC9]
  | .jz w => [0xCA, lowByte w, highByte w]
  | .illegalCBh w => [0xCB, lowByte w, highByte w]
  | .cz w => [0xCC, lowByte w, highByte w]
  | .call w => [0xCD, lowByte w, highByte w]
  | .aci n => [0xCE, n]
  | .rst1 => [0xCF]
  | .rnc => [0xD0]
  | .popD => [0xD1]
  | .jnc w => [0xD2, lowByte w, highByte w]
  | .out n => [0xD3, n]
  | .cnc w => [0xD4, lowByte w, highByte w]
  | .pushD => [0xD5]
  | .sui n => [0xD6, n]
  | .rst2 => [0xD7]
  | .rc => [0xD8]
  | .illegalD9h => [0xD9]
  | .jc w => [0xDA, lowByte w, highByte w]
  | .inp n => [0xDB, n]
  | .cc w => [0xDC, lowByte w, highByte w]
  | .illegalDDh w => [0xDD, lowByte w, highByte w]
  | .sbi n => [0xDE, n]
  | .rst3 => [0xDF]
  | .rpo => [0xE0]
  | .popH => [0xE1]
  | .jpo w => [0xE2, lowByte w, highByte w]
  | .xthl => [0xE3]
  | .cpo w => [0xE4, lowByte w, highByte w]
  | .pushH => [0xE5]
  | .ani n => [0xE6, n]
  | .rst4 => [0xE7]
  | .rpe => [0xE8]
  | .pchl => [0xE9]
  | .jpe w => [0xEA, lowByte w, highByte w]
  | .xchg => [0xEB]
  | .cpe w => [0xEC, lowByte w, highByte w]
  | .illegalEDh w => [0xED, lowByte w, highByte w]
  | .xri n => [0xEE, n]
  | .rst5 => [0xEF]
  | .rp => [0xF0]
  | .popPSW => [0xF1]
  | .jp w => [0xF2, lowByte w, highByte w]
  | .di => [0xF3]
  | .cp w => [0xF4, lowByte w, highByte w]
  | .pushPSW => [0xF5]
  | .ori n => [0xF6, n]
  | .rst6 => [0xF7]
  | .rm => [0xF8]
  | .sphl => [0xF9]
  | .jm w => [0xFA, lowByte w, highByte w]
  | .ei => [0xFB]
  | .cm w => [0xFC, lowByte w, highByte w]
  | .illegalFDh w => [0xFD, lowByte w, highByte w]
  | .cpi n => [0xFE, n]
  | .rst7 => [0xFF]

/-- The length of an instruction in bytes (R100). -/
def Instr.length (i : Instr) : Nat := (encode i).length

/-! ## The families: the instruction an opcode field selects -/

/-- The pattern `01 ddd sss` (R107): MOV ddd,sss, except that MOV M,M is HLT (R108). -/
def Instr.mov : RegCode → RegCode → Instr
  | .b, .b => .movBB | .b, .c => .movBC | .b, .d => .movBD | .b, .e => .movBE
  | .b, .h => .movBH | .b, .l => .movBL | .b, .m => .movBM | .b, .a => .movBA
  | .c, .b => .movCB | .c, .c => .movCC | .c, .d => .movCD | .c, .e => .movCE
  | .c, .h => .movCH | .c, .l => .movCL | .c, .m => .movCM | .c, .a => .movCA
  | .d, .b => .movDB | .d, .c => .movDC | .d, .d => .movDD | .d, .e => .movDE
  | .d, .h => .movDH | .d, .l => .movDL | .d, .m => .movDM | .d, .a => .movDA
  | .e, .b => .movEB | .e, .c => .movEC | .e, .d => .movED | .e, .e => .movEE
  | .e, .h => .movEH | .e, .l => .movEL | .e, .m => .movEM | .e, .a => .movEA
  | .h, .b => .movHB | .h, .c => .movHC | .h, .d => .movHD | .h, .e => .movHE
  | .h, .h => .movHH | .h, .l => .movHL | .h, .m => .movHM | .h, .a => .movHA
  | .l, .b => .movLB | .l, .c => .movLC | .l, .d => .movLD | .l, .e => .movLE
  | .l, .h => .movLH | .l, .l => .movLL | .l, .m => .movLM | .l, .a => .movLA
  | .m, .b => .movMB | .m, .c => .movMC | .m, .d => .movMD | .m, .e => .movME
  | .m, .h => .movMH | .m, .l => .movML | .m, .m => .hlt | .m, .a => .movMA
  | .a, .b => .movAB | .a, .c => .movAC | .a, .d => .movAD | .a, .e => .movAE
  | .a, .h => .movAH | .a, .l => .movAL | .a, .m => .movAM | .a, .a => .movAA

/-- `00 ddd 110` (R133, R134): MVI. -/
def Instr.mvi : RegCode → Byte → Instr
  | .b => .mviB | .c => .mviC | .d => .mviD | .e => .mviE
  | .h => .mviH | .l => .mviL | .m => .mviM | .a => .mviA

/-- `00 rp 0001` (R135): LXI. -/
def Instr.lxi : Pair → Word → Instr
  | .bc => .lxiB | .de => .lxiD | .hl => .lxiH | .sp => .lxiSP

/-- `000 r 1010` (R140): LDAX. -/
def Instr.ldax : AccPair → Instr
  | .bc => .ldaxB | .de => .ldaxD

/-- `000 r 0010` (R141): STAX. -/
def Instr.stax : AccPair → Instr
  | .bc => .staxB | .de => .staxD

/-- `10 000 sss` (R153): ADD. -/
def Instr.add : RegCode → Instr
  | .b => .addB | .c => .addC | .d => .addD | .e => .addE
  | .h => .addH | .l => .addL | .m => .addM | .a => .addA

/-- `10 001 sss` (R155): ADC. -/
def Instr.adc : RegCode → Instr
  | .b => .adcB | .c => .adcC | .d => .adcD | .e => .adcE
  | .h => .adcH | .l => .adcL | .m => .adcM | .a => .adcA

/-- `10 010 sss` (R157): SUB. -/
def Instr.sub : RegCode → Instr
  | .b => .subB | .c => .subC | .d => .subD | .e => .subE
  | .h => .subH | .l => .subL | .m => .subM | .a => .subA

/-- `10 011 sss` (R159): SBB. -/
def Instr.sbb : RegCode → Instr
  | .b => .sbbB | .c => .sbbC | .d => .sbbD | .e => .sbbE
  | .h => .sbbH | .l => .sbbL | .m => .sbbM | .a => .sbbA

/-- `10 100 sss` (R181): ANA. -/
def Instr.ana : RegCode → Instr
  | .b => .anaB | .c => .anaC | .d => .anaD | .e => .anaE
  | .h => .anaH | .l => .anaL | .m => .anaM | .a => .anaA

/-- `10 101 sss` (R183): XRA. -/
def Instr.xra : RegCode → Instr
  | .b => .xraB | .c => .xraC | .d => .xraD | .e => .xraE
  | .h => .xraH | .l => .xraL | .m => .xraM | .a => .xraA

/-- `10 110 sss` (R185): ORA. -/
def Instr.ora : RegCode → Instr
  | .b => .oraB | .c => .oraC | .d => .oraD | .e => .oraE
  | .h => .oraH | .l => .oraL | .m => .oraM | .a => .oraA

/-- `10 111 sss` (R187): CMP. -/
def Instr.cmp : RegCode → Instr
  | .b => .cmpB | .c => .cmpC | .d => .cmpD | .e => .cmpE
  | .h => .cmpH | .l => .cmpL | .m => .cmpM | .a => .cmpA

/-- `00 ddd 100` (R161): INR. -/
def Instr.inr : RegCode → Instr
  | .b => .inrB | .c => .inrC | .d => .inrD | .e => .inrE
  | .h => .inrH | .l => .inrL | .m => .inrM | .a => .inrA

/-- `00 ddd 101` (R162): DCR. -/
def Instr.dcr : RegCode → Instr
  | .b => .dcrB | .c => .dcrC | .d => .dcrD | .e => .dcrE
  | .h => .dcrH | .l => .dcrL | .m => .dcrM | .a => .dcrA

/-- `00 rp 0011` (R163): INX. -/
def Instr.inx : Pair → Instr
  | .bc => .inxB | .de => .inxD | .hl => .inxH | .sp => .inxSP

/-- `00 rp 1011` (R164): DCX. -/
def Instr.dcx : Pair → Instr
  | .bc => .dcxB | .de => .dcxD | .hl => .dcxH | .sp => .dcxSP

/-- `00 rp 1001` (R165): DAD. -/
def Instr.dad : Pair → Instr
  | .bc => .dadB | .de => .dadD | .hl => .dadH | .sp => .dadSP

/-- `11 rp 0101` (R220, R221): PUSH. -/
def Instr.push : StackPair → Instr
  | .bc => .pushB | .de => .pushD | .hl => .pushH | .psw => .pushPSW

/-- `11 rp 0001` (R222, R223): POP. -/
def Instr.pop : StackPair → Instr
  | .bc => .popB | .de => .popD | .hl => .popH | .psw => .popPSW

/-- `11 ccc 010` (R202): the conditional jumps. -/
def Instr.jcc : Cond → Word → Instr
  | .nz => .jnz | .z => .jz | .nc => .jnc | .c => .jc
  | .po => .jpo | .pe => .jpe | .p => .jp | .m => .jm

/-- `11 ccc 100` (R204): the conditional calls. -/
def Instr.ccc : Cond → Word → Instr
  | .nz => .cnz | .z => .cz | .nc => .cnc | .c => .cc
  | .po => .cpo | .pe => .cpe | .p => .cp | .m => .cm

/-- `11 ccc 000` (R206): the conditional returns. -/
def Instr.rcc : Cond → Instr
  | .nz => .rnz | .z => .rz | .nc => .rnc | .c => .rc
  | .po => .rpo | .pe => .rpe | .p => .rp | .m => .rm

/-- `11 nnn 111` (R105, R207): RST n. -/
def Instr.rst : Fin 8 → Instr
  | 0 => .rst0 | 1 => .rst1 | 2 => .rst2 | 3 => .rst3
  | 4 => .rst4 | 5 => .rst5 | 6 => .rst6 | 7 => .rst7

/-! ## The host's view: a table row's bits -/

/-- Byte k of the number w cut to nbits (the first byte in bits 7:0, the second in bits 15:8). -/
def tableByte (nbits w k : Nat) : Byte := BitVec.ofNat 8 ((w % 2 ^ nbits) >>> (8 * k))

/-- The instruction this decoder reads from the bits w of a table row, every bit at nbits and above zero. -/
def decodeTableWord (nbits w : Nat) : Option Instr :=
  match decode [tableByte nbits w 0, tableByte nbits w 1, tableByte nbits w 2] with
  | .ok (i, _) => some i
  | .error _ => none

end Sys2Proof
end

