-- ==== Sys2Proof/Machine/State.lean ====
section
/-! DEFINITION. The machine's state as plain data (10_state.md R20 to R43), its values at power-on (R36 to R42),
and the reasons a step can stop. -/

namespace Sys2Proof.Machine

/-- The five flags (R25). -/
structure Flags where
  /-- sign -/
  s : Bool
  /-- zero -/
  z : Bool
  /-- auxiliary carry, the carry out of bit 3 -/
  ac : Bool
  /-- parity: 1 when the result has an even number of 1 bits -/
  p : Bool
  /-- carry; after a subtraction, the borrow -/
  cy : Bool
  deriving DecidableEq, Repr

/-- The interrupt controller's two states (R31, 60_exceptions.md R254). -/
inductive Phase where
  | preMid
  | preEnd
  deriving DecidableEq, Repr

/-- The two fault codes (92_eei_decisions.md D35): UnimplementedOpcode is 1, ROMLoadMismatch is 2. -/
inductive FaultCode where
  | unimplementedOpcode
  | romLoadMismatch
  deriving DecidableEq, Repr

/-- The number the spec gives a fault code (D35). -/
def FaultCode.number : FaultCode → Nat
  | .unimplementedOpcode => 1
  | .romLoadMismatch => 2

/-- `status` (R32): running, or faulted with a code, the address and the opcode byte to report. -/
inductive Status where
  | running
  | faulted (code : FaultCode) (pc : Word) (op : Byte)
  deriving DecidableEq, Repr

/-- The input snapshot: the three bytes the host supplies for one frame (R33, 60_exceptions.md R268). -/
structure Snapshot where
  in0 : Byte
  in1 : Byte
  in2 : Byte
  deriving DecidableEq, Repr

/-- The memory store: (physical address, byte) pairs in the canonical form `Memory.wf` (Machine/Memory.lean). -/
abbrev Memory := List Host.Cell

/-- The framebuffer: 256 rows (row 0 at the top) of 224 columns (column 0 at the left), one bit each (20_memory.md R72). -/
abbrev Framebuffer := Vector (Vector Bool 224) 256

/-- Everything the spec gives the machine. -/
structure State where
  /-- general registers (R20) -/
  b : Byte
  c : Byte
  d : Byte
  e : Byte
  h : Byte
  l : Byte
  /-- the accumulator (R20) -/
  a : Byte
  /-- the flags (R25) -/
  flags : Flags
  /-- stack pointer (R23) -/
  sp : Word
  /-- program counter: between steps, the address of the next instruction's first byte (R24) -/
  pc : Word
  /-- interrupt enable (R28) -/
  ie : Bool
  /-- set by HLT, cleared by an interrupt delivery (R29) -/
  halted : Bool
  /-- the shift register's value (R30) -/
  shv : Word
  /-- the shift register's amount (R30) -/
  sha : BitVec 3
  /-- the frame cycle counter (R31) -/
  cyc : Nat
  /-- the interrupt controller's phase (R31) -/
  phase : Phase
  /-- running or faulted (R32) -/
  status : Status
  /-- IN0, IN1, IN2 of this frame (R33) -/
  input : Snapshot
  /-- ROM, work RAM and video RAM (R34) -/
  mem : Memory
  /-- the framebuffer last handed out; none before the first end of frame (R35, 92_eei_decisions.md D34) -/
  framebuffer : Option Framebuffer
  /-- MODEL's own: the host's snapshots for the frames to come, oldest first (R43; log entry 6) -/
  upcoming : List Snapshot
  /-- the session parameters, which no step changes (R43; log entry 5) -/
  params : Params
  deriving DecidableEq, Repr

/-- Why a step answers a fault: there is no step, because `status` is faulted (R110, R251). Safe: the machine has
stopped, and the fault carries what R251 hands to the host. Raised by `sessionOver` (Machine/Ops.lean) only. -/
inductive Fault where
  /-- the session ended by UnimplementedOpcode (R250) at `pc` with opcode byte `op`; safe, the spec's own stop -/
  | unimplementedOpcode (pc : Word) (op : Byte)
  /-- the session never started: ROMLoadMismatch (70_reset_and_hazards.md R282); safe, the spec's own stop -/
  | romLoadMismatch (pc : Word) (op : Byte)
  deriving DecidableEq, Repr

/-- Why a step is refused. Nothing refuses: every row of the opcode table has its meaning. -/
inductive Refusal where
  /-- the instruction has no meaning in the model; no arm of `exec` raises it; safe -/
  | notModelled (mnemonic : String)
  deriving DecidableEq, Repr

/-- The answer of a step or of an instruction's meaning. -/
abbrev Result := Host.Outcome State Fault Refusal

/-- The values R38 leaves unspecified at power-on: each register, SP and each flag is an independent draw. -/
structure PowerOnDraw where
  b : Byte
  c : Byte
  d : Byte
  e : Byte
  h : Byte
  l : Byte
  a : Byte
  flags : Flags
  sp : Word
  deriving DecidableEq, Repr

/-- The state at power-on (70_reset_and_hazards.md R280 (1)) for a draw of the unspecified values (R38), the session's
parameters (R43) and the snapshot the host supplies for the first frame (R42). -/
def State.powerOn (p : Params) (draw : PowerOnDraw) (first : Snapshot) : State where
  b := draw.b
  c := draw.c
  d := draw.d
  e := draw.e
  h := draw.h
  l := draw.l
  a := draw.a
  flags := draw.flags
  sp := draw.sp
  pc := 0x0000
  ie := false
  halted := false
  shv := 0x0000
  sha := 0
  cyc := 0
  phase := .preMid
  status := .running
  input := first
  mem := []
  framebuffer := none
  upcoming := []
  params := p

/-- DESIGN CHOICE (log entry 1, unsafe): the draw that `State.reset` makes of the values R38 leaves unspecified. -/
def PowerOnDraw.zero : PowerOnDraw where
  b := 0
  c := 0
  d := 0
  e := 0
  h := 0
  l := 0
  a := 0
  flags := ⟨false, false, false, false, false⟩
  sp := 0

/-- The machine right after reset: power-on with the default parameters of R5; the unspecified registers, SP and flags
are zero (log entry 1) and no switch is closed (log entry 2). -/
def State.reset : State := State.powerOn Params.default PowerOnDraw.zero ⟨0, 0, 0⟩

end Sys2Proof.Machine
end

