-- ==== Sys2Proof/Machine/Flags.lean ====
section
/-! DEFINITION. Every flag computation of the spec: the flags byte (10_state.md R26), the helpers szp, add8, sub8
(41_arithmetic.md R150 to R152) and and8 (42_logical.md R180), decimal adjust (R166), and the conditions
(43_branch.md R200). Sums are taken in unbounded naturals (00_scope.md R7). -/

namespace Sys2Proof.Machine

/-- The flags byte `F = S<<7 | Z<<6 | 0<<5 | AC<<4 | 0<<3 | P<<2 | 1<<1 | CY` (R26). -/
def Flags.toByte (f : Flags) : Byte :=
  BitVec.ofBool f.s ++ BitVec.ofBool f.z ++ 0b0#1 ++ BitVec.ofBool f.ac ++ 0b0#1 ++ BitVec.ofBool f.p ++ 0b1#1 ++
    BitVec.ofBool f.cy

/-- The flags a popped byte gives: bits 7, 6, 4, 2 and 0; bits 5, 3 and 1 are ignored (R26, R223). -/
def Flags.ofByte (v : Byte) : Flags where
  s := v.getLsbD 7
  z := v.getLsbD 6
  ac := v.getLsbD 4
  p := v.getLsbD 2
  cy := v.getLsbD 0

/-- How many of bits 0 to n - 1 are 1. -/
def onesBelow (v : Byte) : Nat → Nat
  | 0 => 0
  | n + 1 => (v.getLsbD n).toNat + onesBelow v n

/-- `parity(v)`: an even number of 1 bits (R150). -/
def parity (v : Byte) : Bool := onesBelow v 8 % 2 == 0

/-- `szp(v)`: S, Z and P from a result, AC and CY kept (R150). -/
def Flags.szp (f : Flags) (v : Byte) : Flags := { f with s := v.getLsbD 7, z := v == 0, p := parity v }

/-- The low half of a byte, `a & 0x0F`, as a number. -/
def lowNibble (a : Byte) : Nat := (a &&& 0x0F).toNat

/-- `add8(a, b, c)`: the 8-bit sum and all five flags (R151). -/
def add8 (a b : Byte) (c : Bool) (f : Flags) : Byte × Flags :=
  let t := a.toNat + b.toNat + c.toNat
  let ac := decide (lowNibble a + lowNibble b + c.toNat > 0x0F)
  let res := BitVec.ofNat 8 t
  (res, { f with cy := t.testBit 8, ac := ac }.szp res)

/-- `sub8(a, b, c)`: a - b - c as the addition of the one's complement, and all five flags; CY is the borrow (R152). -/
def sub8 (a b : Byte) (c : Bool) (f : Flags) : Byte × Flags :=
  let nb := ~~~b
  let t := a.toNat + nb.toNat + (1 - c.toNat)
  let ac := decide (lowNibble a + lowNibble nb + (1 - c.toNat) > 0x0F)
  let res := BitVec.ofNat 8 t
  (res, { f with cy := !t.testBit 8, ac := ac }.szp res)

/-- The auxiliary carry of AND under each policy (R180). -/
def andAuxCarry (policy : AndAcPolicy) (a b : Byte) : Bool :=
  match policy with
  | .i8080 => (a ||| b).getLsbD 3
  | .clear => false
  | .set => true

/-- `and8(a, b)`: the AND and all five flags (R180). -/
def and8 (policy : AndAcPolicy) (a b : Byte) (f : Flags) : Byte × Flags :=
  let res := a &&& b
  (res, { f with cy := false, ac := andAuxCarry policy a b }.szp res)

/-- The flags of XRA, XRI, ORA and ORI from their result: CY and AC 0, S Z P from the result (R183 to R186). -/
def Flags.logic (f : Flags) (res : Byte) : Flags := { f with cy := false, ac := false }.szp res

/-- The result and flags of INR: AC the carry out of bit 3, CY kept (R161). -/
def inc8 (v : Byte) (f : Flags) : Byte × Flags :=
  let res := v + 1
  (res, { f with ac := lowNibble v == 0x0F }.szp res)

/-- The result and flags of DCR: AC the carry out of bit 3 of v + 0xFF, CY kept (R162). -/
def dec8 (v : Byte) (f : Flags) : Byte × Flags :=
  let res := v - 1
  (res, { f with ac := lowNibble v != 0 }.szp res)

/-- The low correction of DAA: 6 if AC = 1 or the low digit is above 9 (R166). -/
def daaLow (a : Byte) (f : Flags) : Nat := if f.ac || decide (lowNibble a > 9) then 0x06 else 0

/-- The condition for DAA's high correction: CY = 1, or the high digit above 9, or 9 with a low digit above 9 (R166). -/
def daaHigh (a : Byte) (f : Flags) : Bool :=
  let hi := (a >>> 4).toNat
  f.cy || decide (hi > 9) || (decide (hi ≥ 9) && decide (lowNibble a > 9))

/-- DAA: the adjusted A and all five flags; CY is set or left as it was (R166). -/
def daa8 (a : Byte) (f : Flags) : Byte × Flags :=
  let corr := daaLow a f ||| (if daaHigh a f then 0x60 else 0)
  let ac := decide (lowNibble a + corr % 16 > 0x0F)
  let res := BitVec.ofNat 8 (a.toNat + corr)
  (res, { f with ac := ac, cy := if daaHigh a f then true else f.cy }.szp res)

/-- `cond(ccc)`: the truth value of a condition (R200). -/
def Flags.cond (f : Flags) : Cond → Bool
  | .nz => !f.z
  | .z => f.z
  | .nc => !f.cy
  | .c => f.cy
  | .po => !f.p
  | .pe => f.p
  | .p => !f.s
  | .m => f.s

end Sys2Proof.Machine
end

