-- ==== Sys2Proof/Machine/Cycles.lean ====
section
/-! DEFINITION. The cycle cost of every instruction (30_encoding.md R111, 70_reset_and_hazards.md R287; the columns
`cycles`, `cycles_taken` and `cycles_not_taken` of spec/opcode_table.json). -/

namespace Sys2Proof.Machine

/-- `HALT_STEP_CYCLES` (60_exceptions.md R262, 92_eei_decisions.md D24). -/
def haltStepCycles : Nat := 7

/-- The cost of a conditional instruction: taken when its condition holds (R111). -/
def condCycles (cc : Cond) (taken notTaken : Nat) (s : State) : Nat := if s.flags.cond cc then taken else notTaken

/-- `cycles(op, taken)` (R111). Jcc not taken costs the parameter JCC_NOT_TAKEN_CYCLES (R202). The rows of the illegal
opcodes give the cost of their aliases; a step that faults returns no cost (R250), which `finishStep` sees to. -/
def cycles (i : Instr) (s : State) : Nat :=
  match i with
  | .nop => 4
  | .lxiB _ => 10
  | .staxB => 7
  | .inxB => 5
  | .inrB => 5
  | .dcrB => 5
  | .mviB _ => 7
  | .rlc => 4
  | .illegal08h => 4
  | .dadB => 10
  | .ldaxB => 7
  | .dcxB => 5
  | .inrC => 5
  | .dcrC => 5
  | .mviC _ => 7
  | .rrc => 4
  | .illegal10h => 4
  | .lxiD _ => 10
  | .staxD => 7
  | .inxD => 5
  | .inrD => 5
  | .dcrD => 5
  | .mviD _ => 7
  | .ral => 4
  | .illegal18h => 4
  | .dadD => 10
  | .ldaxD => 7
  | .dcxD => 5
  | .inrE => 5
  | .dcrE => 5
  | .mviE _ => 7
  | .rar => 4
  | .illegal20h => 4
  | .lxiH _ => 10
  | .shld _ => 16
  | .inxH => 5
  | .inrH => 5
  | .dcrH => 5
  | .mviH _ => 7
  | .daa => 4
  | .illegal28h => 4
  | .dadH => 10
  | .lhld _ => 16
  | .dcxH => 5
  | .inrL => 5
  | .dcrL => 5
  | .mviL _ => 7
  | .cma => 4
  | .illegal30h => 4
  | .lxiSP _ => 10
  | .sta _ => 13
  | .inxSP => 5
  | .inrM => 10
  | .dcrM => 10
  | .mviM _ => 10
  | .stc => 4
  | .illegal38h => 4
  | .dadSP => 10
  | .lda _ => 13
  | .dcxSP => 5
  | .inrA => 5
  | .dcrA => 5
  | .mviA _ => 7
  | .cmc => 4
  | .movBB => 5
  | .movBC => 5
  | .movBD => 5
  | .movBE => 5
  | .movBH => 5
  | .movBL => 5
  | .movBM => 7
  | .movBA => 5
  | .movCB => 5
  | .movCC => 5
  | .movCD => 5
  | .movCE => 5
  | .movCH => 5
  | .movCL => 5
  | .movCM => 7
  | .movCA => 5
  | .movDB => 5
  | .movDC => 5
  | .movDD => 5
  | .movDE => 5
  | .movDH => 5
  | .movDL => 5
  | .movDM => 7
  | .movDA => 5
  | .movEB => 5
  | .movEC => 5
  | .movED => 5
  | .movEE => 5
  | .movEH => 5
  | .movEL => 5
  | .movEM => 7
  | .movEA => 5
  | .movHB => 5
  | .movHC => 5
  | .movHD => 5
  | .movHE => 5
  | .movHH => 5
  | .movHL => 5
  | .movHM => 7
  | .movHA => 5
  | .movLB => 5
  | .movLC => 5
  | .movLD => 5
  | .movLE => 5
  | .movLH => 5
  | .movLL => 5
  | .movLM => 7
  | .movLA => 5
  | .movMB => 7
  | .movMC => 7
  | .movMD => 7
  | .movME => 7
  | .movMH => 7
  | .movML => 7
  | .hlt => 7
  | .movMA => 7
  | .movAB => 5
  | .movAC => 5
  | .movAD => 5
  | .movAE => 5
  | .movAH => 5
  | .movAL => 5
  | .movAM => 7
  | .movAA => 5
  | .addB => 4
  | .addC => 4
  | .addD => 4
  | .addE => 4
  | .addH => 4
  | .addL => 4
  | .addM => 7
  | .addA => 4
  | .adcB => 4
  | .adcC => 4
  | .adcD => 4
  | .adcE => 4
  | .adcH => 4
  | .adcL => 4
  | .adcM => 7
  | .adcA => 4
  | .subB => 4
  | .subC => 4
  | .subD => 4
  | .subE => 4
  | .subH => 4
  | .subL => 4
  | .subM => 7
  | .subA => 4
  | .sbbB => 4
  | .sbbC => 4
  | .sbbD => 4
  | .sbbE => 4
  | .sbbH => 4
  | .sbbL => 4
  | .sbbM => 7
  | .sbbA => 4
  | .anaB => 4
  | .anaC => 4
  | .anaD => 4
  | .anaE => 4
  | .anaH => 4
  | .anaL => 4
  | .anaM => 7
  | .anaA => 4
  | .xraB => 4
  | .xraC => 4
  | .xraD => 4
  | .xraE => 4
  | .xraH => 4
  | .xraL => 4
  | .xraM => 7
  | .xraA => 4
  | .oraB => 4
  | .oraC => 4
  | .oraD => 4
  | .oraE => 4
  | .oraH => 4
  | .oraL => 4
  | .oraM => 7
  | .oraA => 4
  | .cmpB => 4
  | .cmpC => 4
  | .cmpD => 4
  | .cmpE => 4
  | .cmpH => 4
  | .cmpL => 4
  | .cmpM => 7
  | .cmpA => 4
  | .rnz => condCycles .nz 11 5 s
  | .popB => 10
  | .jnz _ => condCycles .nz 10 s.params.jccNotTakenCycles s
  | .jmp _ => 10
  | .cnz _ => condCycles .nz 17 11 s
  | .pushB => 11
  | .adi _ => 7
  | .rst0 => 11
  | .rz => condCycles .z 11 5 s
  | .ret => 10
  | .jz _ => condCycles .z 10 s.params.jccNotTakenCycles s
  | .illegalCBh _ => 10
  | .cz _ => condCycles .z 17 11 s
  | .call _ => 17
  | .aci _ => 7
  | .rst1 => 11
  | .rnc => condCycles .nc 11 5 s
  | .popD => 10
  | .jnc _ => condCycles .nc 10 s.params.jccNotTakenCycles s
  | .out _ => 10
  | .cnc _ => condCycles .nc 17 11 s
  | .pushD => 11
  | .sui _ => 7
  | .rst2 => 11
  | .rc => condCycles .c 11 5 s
  | .illegalD9h => 10
  | .jc _ => condCycles .c 10 s.params.jccNotTakenCycles s
  | .inp _ => 10
  | .cc _ => condCycles .c 17 11 s
  | .illegalDDh _ => 17
  | .sbi _ => 7
  | .rst3 => 11
  | .rpo => condCycles .po 11 5 s
  | .popH => 10
  | .jpo _ => condCycles .po 10 s.params.jccNotTakenCycles s
  | .xthl => 18
  | .cpo _ => condCycles .po 17 11 s
  | .pushH => 11
  | .ani _ => 7
  | .rst4 => 11
  | .rpe => condCycles .pe 11 5 s
  | .pchl => 5
  | .jpe _ => condCycles .pe 10 s.params.jccNotTakenCycles s
  | .xchg => 4
  | .cpe _ => condCycles .pe 17 11 s
  | .illegalEDh _ => 17
  | .xri _ => 7
  | .rst5 => 11
  | .rp => condCycles .p 11 5 s
  | .popPSW => 10
  | .jp _ => condCycles .p 10 s.params.jccNotTakenCycles s
  | .di => 4
  | .cp _ => condCycles .p 17 11 s
  | .pushPSW => 11
  | .ori _ => 7
  | .rst6 => 11
  | .rm => condCycles .m 11 5 s
  | .sphl => 5
  | .jm _ => condCycles .m 10 s.params.jccNotTakenCycles s
  | .ei => 4
  | .cm _ => condCycles .m 17 11 s
  | .illegalFDh _ => 17
  | .cpi _ => 7
  | .rst7 => 11

end Sys2Proof.Machine
end

