-- ==== Sys2Proof/Machine/Memory.lean ====
section
/-! DEFINITION. The memory store and the bus (20_memory.md R50 to R58): the store as a canonical list of cells, the
address decoding, and the byte and 16-bit accesses. -/

namespace Sys2Proof.Machine

/-- What an address that is not listed reads as: 0x00 (R39, R52). For ROM bytes not loaded: log entry 3. -/
def Memory.unlisted : Byte := 0x00

/-- The byte at a physical address. -/
def Memory.get : Memory → Nat → Byte
  | [], _ => Memory.unlisted
  | (k, v) :: rest, p => if k = p then v else Memory.get rest p

/-- Remove every entry of a physical address. -/
def Memory.erase : Memory → Nat → Memory
  | [], _ => []
  | (k, v) :: rest, p => if k = p then Memory.erase rest p else (k, v) :: Memory.erase rest p

/-- Insert an entry before the first entry of a higher address. -/
def Memory.insert : Memory → Nat → Byte → Memory
  | [], p, v => [(p, v)]
  | (k, w) :: rest, p, v => if p < k then (p, v) :: (k, w) :: rest else (k, w) :: Memory.insert rest p v

/-- Store a byte at a physical address; the value an unlisted address reads as removes the entry. -/
def Memory.set (m : Memory) (p : Nat) (v : Byte) : Memory :=
  if v = Memory.unlisted then Memory.erase m p else Memory.insert (Memory.erase m p) p v

/-- Every address of the list is above p. -/
def Memory.above (p : Nat) : Memory → Bool
  | [] => true
  | (k, _) :: rest => decide (p < k) && Memory.above p rest

/-- The canonical form: addresses strictly rising and inside the 16384 bytes of the store (R34), no entry equal to
what an unlisted address reads as. -/
def Memory.wf : Memory → Bool
  | [] => true
  | (k, v) :: rest => Memory.above k rest && decide (k < 0x4000) && decide (v ≠ Memory.unlisted) && Memory.wf rest

/-- Store a run of bytes from a physical address up. -/
def Memory.load (m : Memory) (base : Nat) : List Byte → Memory
  | [] => m
  | v :: rest => Memory.load (Memory.set m base v) (base + 1) rest

/-! ## Address decoding -/

/-- The physical byte a bus address selects: a & 0x3FFF (R51). -/
def physical (a : Word) : Nat := (a &&& 0x3FFF).toNat

/-- The three regions of the store (R34). -/
inductive Region where
  | rom | workRam | videoRam
  deriving DecidableEq, Repr

/-- The region of a physical byte (R51). -/
def regionOf (p : Nat) : Region :=
  if p ≤ 0x1FFF then .rom else if p ≤ 0x23FF then .workRam else .videoRam

/-- A bus address whose physical byte is ROM, mirrors included (R51). -/
abbrev isRom (a : Word) : Prop := regionOf (physical a) = .rom

/-! ## Bus accesses -/

/-- The store after `MemWrite(a, 1, v)` (R53): a write whose physical byte is ROM is dropped. -/
def busWrite (m : Memory) (a : Word) (v : Byte) : Memory :=
  match regionOf (physical a) with
  | .rom => m
  | .workRam => Memory.set m (physical a) v
  | .videoRam => Memory.set m (physical a) v

/-- `MemRead(a, 1)` (R52). It changes no state (R58). -/
def State.memRead (s : State) (a : Word) : Byte := Memory.get s.mem (physical a)

/-- `MemWrite(a, 1, v)` (R53). -/
def State.memWrite (s : State) (a : Word) (v : Byte) : State := { s with mem := busWrite s.mem a v }

/-- `MemRead(a, 2)` (R55): little-endian, the second byte at (a + 1) mod 65536. -/
def State.memRead2 (s : State) (a : Word) : Word := joinBytes (s.memRead (a + 1)) (s.memRead a)

/-- `MemWrite(a, 2, v)` (R55): the low byte at a, then the high byte at (a + 1) mod 65536. -/
def State.memWrite2 (s : State) (a : Word) (v : Word) : State :=
  (s.memWrite a (lowByte v)).memWrite (a + 1) (highByte v)

end Sys2Proof.Machine
end

