-- ==== Sys2Proof/Machine/Operands.lean ====
section
/-! DEFINITION. The operand forms: an 8-bit operand by register code, a 16-bit operand by pair code (10_state.md R21,
R22, R27). -/

namespace Sys2Proof.Machine

/-- The pair H:L (R22). -/
def State.hl (s : State) : Word := joinBytes s.h s.l

/-- `R(c)` (R21): a register, or for M the memory byte at H:L. -/
def State.readCode (s : State) : RegCode → Byte
  | .b => s.b
  | .c => s.c
  | .d => s.d
  | .e => s.e
  | .h => s.h
  | .l => s.l
  | .m => s.memRead s.hl
  | .a => s.a

/-- `R(c) <- v` (R21). -/
def State.writeCode (s : State) : RegCode → Byte → State
  | .b, v => { s with b := v }
  | .c, v => { s with c := v }
  | .d, v => { s with d := v }
  | .e, v => { s with e := v }
  | .h, v => { s with h := v }
  | .l, v => { s with l := v }
  | .m, v => s.memWrite s.hl v
  | .a, v => { s with a := v }

/-- `RP(p)` under the reading of LXI, INX, DCX and DAD (R22). -/
def State.readPair (s : State) : Pair → Word
  | .bc => joinBytes s.b s.c
  | .de => joinBytes s.d s.e
  | .hl => joinBytes s.h s.l
  | .sp => s.sp

/-- `RP(p) <- v` under the reading of LXI, INX and DCX (R22): hi <- v[15:8], lo <- v[7:0]. -/
def State.writePair (s : State) : Pair → Word → State
  | .bc, v => { s with b := highByte v, c := lowByte v }
  | .de, v => { s with d := highByte v, e := lowByte v }
  | .hl, v => { s with h := highByte v, l := lowByte v }
  | .sp, v => { s with sp := v }

/-- `RP(p)` for the pairs LDAX and STAX accept (30_encoding.md R103). -/
def State.readAccPair (s : State) : AccPair → Word
  | .bc => s.readPair .bc
  | .de => s.readPair .de

end Sys2Proof.Machine
end

