-- ==== Sys2Proof/Machine/Ops.lean ====
section
/-! DEFINITION. The shared operations: the PC advance (30_encoding.md R110), the stack (20_memory.md R76, R77), the
ports and the shift register (R61 to R66), taking the fault and an interrupt (60_exceptions.md R250, R257), and the
return (43_branch.md R205). -/

namespace Sys2Proof.Machine

/-! ## Register updates -/

/-- `PC <- w`. -/
def State.setPc (s : State) (w : Word) : State := { s with pc := w }

/-- `PC <- (PC + n) mod 65536` (R24, R110). -/
def State.advance (s : State) (n : Nat) : State := { s with pc := s.pc + BitVec.ofNat 16 n }

/-- `SP <- w`. -/
def State.setSp (s : State) (w : Word) : State := { s with sp := w }

/-- `A <- v`. -/
def State.setA (s : State) (v : Byte) : State := { s with a := v }

/-- Write the flags. -/
def State.setFlags (s : State) (f : Flags) : State := { s with flags := f }

/-- Write A and the flags together. -/
def State.setAF (s : State) (r : Byte × Flags) : State := { s with a := r.1, flags := r.2 }

/-- `cyc <- cyc + n` (R263). -/
def State.addCycles (s : State) (n : Nat) : State := { s with cyc := s.cyc + n }

/-- An instruction of n bytes that completes: PC is advanced past it, then its effect is performed (R110). -/
def complete (n : Nat) (effect : State → State) (s : State) : Result := .next (effect (s.advance n))

/-! ## The stack -/

/-- `Push16(v)` (R76): SP - 1 gets the high byte, then SP - 2 the low byte, and SP has fallen by 2. -/
def State.push16 (s : State) (v : Word) : State :=
  { s with sp := s.sp - 1 - 1, mem := busWrite (busWrite s.mem (s.sp - 1) (highByte v)) (s.sp - 1 - 1) (lowByte v) }

/-- The value `Pop16()` returns (R77): the low byte at SP, the high byte at SP + 1. -/
def State.top16 (s : State) : Word := joinBytes (s.memRead (s.sp + 1)) (s.memRead s.sp)

/-- What `Pop16()` does to the state (R77): SP rises by 2. -/
def State.dropTop (s : State) : State := s.setSp (s.sp + 1 + 1)

/-! ## The shift register and the ports -/

/-- `set_amount(v)`: sha <- v & 0x07 (R64). -/
def State.setAmount (s : State) (v : Byte) : State := { s with sha := v.setWidth 3 }

/-- `shift_in(v)`: shv <- (v << 8) | (shv >> 8) (R65). -/
def State.shiftIn (s : State) (v : Byte) : State :=
  { s with shv := ((v.setWidth 16 : Word) <<< 8) ||| (s.shv >>> 8) }

/-- `result()`: ((shv << sha) >> 8) & 0xFF (R66). -/
def State.shiftResult (s : State) : Byte := BitVec.ofNat 8 ((s.shv.toNat <<< s.sha.toNat) >>> 8)

/-- `PortIn(p)` (R61): ports 0 to 2 the snapshot with the bits fixed at 1, port 3 the shift result, any other 0x00. -/
def State.portIn (s : State) (p : Byte) : Byte :=
  if p = 0 then s.input.in0 ||| 0x0E
  else if p = 1 then s.input.in1 ||| 0x08
  else if p = 2 then s.input.in2
  else if p = 3 then s.shiftResult
  else 0x00

/-- `PortOut(p, v)` (R63): port 2 the shift amount, port 4 the shift data; sound (3, 5), watchdog (6) and every other
port change nothing. -/
def State.portOut (s : State) (p : Byte) (v : Byte) : State :=
  if p = 2 then s.setAmount v
  else if p = 4 then s.shiftIn v
  else s

/-! ## Taking an exception, and the return -/

/-- `raise UnimplementedOpcode(pc, op)` (R250): status <- Faulted(1, pc, op); nothing else changes, PC still holds the
address of the opcode byte. -/
def raiseUnimplementedOpcode (op : Byte) (s : State) : State :=
  { s with status := .faulted .unimplementedOpcode s.pc op }

/-- What a faulted session answers in place of a step (R110, R251). -/
def sessionOver (code : FaultCode) (pc : Word) (op : Byte) : Fault :=
  match code with
  | .unimplementedOpcode => .unimplementedOpcode pc op
  | .romLoadMismatch => .romLoadMismatch pc op

/-- The address of restart vector n: 8 * n (R105). -/
def restartVector (n : Fin 8) : Word := BitVec.ofNat 16 (8 * n.val)

/-- `deliver(n)` (R257): Push16(PC); PC <- 8 * n; IE <- 0; halted <- 0; cyc <- cyc + INT_ACK_CYCLES. -/
def deliver (n : Fin 8) (s : State) : State :=
  { s.push16 s.pc with
    pc := restartVector n, ie := false, halted := false, cyc := s.cyc + s.params.intAckCycles }

/-- `PC <- Pop16()` (R205): the return, from a call as from an interrupt; nothing else is restored (R259). -/
def returnFromCall (s : State) : State := s.dropTop.setPc s.top16

end Sys2Proof.Machine
end

