-- ==== Sys2Proof/Machine/Video.lean ====
section
/-! DEFINITION. The rasterizer (20_memory.md R71 to R75). -/

namespace Sys2Proof.Machine

/-- The bus address of the video-RAM byte that holds the pixel of row y, column x: byte i = 32 * x + (255 - y) / 8 of
video RAM (R71: x = i >> 5 and y = 255 - (8 * (i & 31) + b)). -/
def pixelAddress (y x : Nat) : Word := BitVec.ofNat 16 (0x2400 + 32 * x + (255 - y) / 8)

/-- The bit of that byte: b = (255 - y) mod 8 (R71). -/
def pixelBit (y : Nat) : Nat := (255 - y) % 8

/-- `rasterize()` (R73): every pixel of the framebuffer from the current video-RAM bytes, read through the bus view
0x2400 to 0x3FFF (R75). -/
def rasterize (s : State) : Framebuffer :=
  Vector.ofFn fun (y : Fin 256) => Vector.ofFn fun (x : Fin 224) =>
    (s.memRead (pixelAddress y.val x.val)).getLsbD (pixelBit y.val)

end Sys2Proof.Machine
end

