-- ==== Sys2Proof/Machine/Controller.lean ====
section
/-! DEFINITION. The interrupt controller and what the machine loop does around a CPU step (60_exceptions.md R253 to
R264). -/

namespace Sys2Proof.Machine

/-- Offer interrupt n: delivered if IE = 1, otherwise skipped and lost (R256). -/
def offer (n : Fin 8) (s : State) : State := if s.ie then deliver n s else s

/-- The mid-screen event: interrupt 1 is offered (vector 0x0008, R253) and phase <- PreEnd (R254). -/
def midScreenEvent (s : State) : State := { offer 1 s with phase := .preEnd }

/-- The next call of run_frame writes the snapshot the host supplies (R263, R268). The host's snapshots stand in
`upcoming`; when the list is empty the host supplies the same bytes again (log entry 6). -/
def takeSnapshot (s : State) : State :=
  match s.upcoming with
  | [] => s
  | snap :: rest => { s with input := snap, upcoming := rest }

/-- The end-of-frame event: interrupt 2 is offered (vector 0x0010, R253), the rasterizer runs, cyc <- 0 and
phase <- PreMid (R254, R263, R264). -/
def endOfFrameEvent (s : State) : State :=
  let t := offer 2 s
  { t with framebuffer := some (rasterize t), cyc := 0, phase := .preMid }

/-- What happens at an instruction boundary: at most one event, by phase and threshold (R254, R255, R261). -/
def controller (s : State) : State :=
  match s.phase with
  | .preMid => if s.params.tMid ≤ s.cyc then midScreenEvent s else s
  | .preEnd => if s.params.tEnd ≤ s.cyc then takeSnapshot (endOfFrameEvent s) else s

/-- The boundary after a step of the given cost: cyc <- cyc + c, then the controller (R258, R263). -/
def boundary (cost : Nat) (s : State) : State := controller (s.addCycles cost)

/-- The machine loop after a CPU step (R263): a fault ends it at once, with no cycles and no event (R250, R251). -/
def finishStep (cost : Nat) (s : State) : State :=
  match s.status with
  | .running => boundary cost s
  | .faulted _ _ _ => s

/-- The machine loop after an instruction's answer. -/
def afterExec (cost : Nat) : Result → Result
  | .next t => .next (finishStep cost t)
  | .fault r => .fault r
  | .refused r => .refused r

/-- The step of a halted CPU: nothing is fetched or changed, the cost is HALT_STEP_CYCLES (R262), and the boundary
follows as after any step (R263). -/
def haltedStep (s : State) : State := boundary haltStepCycles s

end Sys2Proof.Machine
end

