-- ==== Sys2Proof/Machine/Arithmetic.lean ====
section
/-! DEFINITION. Arithmetic (41_arithmetic.md R153 to R167): the effect of each form after the PC advance, then one
meaning per instruction. CY is read before it is written. -/

namespace Sys2Proof.Machine

/-- `A <- add8(A, R(sss), 0)` (R153). -/
def addReg (r : RegCode) (s : State) : State := s.setAF (add8 s.a (s.readCode r) false s.flags)

/-- `A <- add8(A, imm8, 0)` (R154). -/
def addImm (n : Byte) (s : State) : State := s.setAF (add8 s.a n false s.flags)

/-- `A <- add8(A, R(sss), CY)` (R155). -/
def adcReg (r : RegCode) (s : State) : State := s.setAF (add8 s.a (s.readCode r) s.flags.cy s.flags)

/-- `A <- add8(A, imm8, CY)` (R156). -/
def adcImm (n : Byte) (s : State) : State := s.setAF (add8 s.a n s.flags.cy s.flags)

/-- `A <- sub8(A, R(sss), 0)` (R157). -/
def subReg (r : RegCode) (s : State) : State := s.setAF (sub8 s.a (s.readCode r) false s.flags)

/-- `A <- sub8(A, imm8, 0)` (R158). -/
def subImm (n : Byte) (s : State) : State := s.setAF (sub8 s.a n false s.flags)

/-- `A <- sub8(A, R(sss), CY)` (R159). -/
def sbbReg (r : RegCode) (s : State) : State := s.setAF (sub8 s.a (s.readCode r) s.flags.cy s.flags)

/-- `A <- sub8(A, imm8, CY)` (R160). -/
def sbbImm (n : Byte) (s : State) : State := s.setAF (sub8 s.a n s.flags.cy s.flags)

/-- INR: R(ddd) + 1, flags S Z AC P (R161). With M in ROM the flags are written and the store is dropped. -/
def incCode (r : RegCode) (s : State) : State :=
  (s.setFlags (inc8 (s.readCode r) s.flags).2).writeCode r (inc8 (s.readCode r) s.flags).1

/-- DCR: R(ddd) - 1, flags S Z AC P (R162). -/
def decCode (r : RegCode) (s : State) : State :=
  (s.setFlags (dec8 (s.readCode r) s.flags).2).writeCode r (dec8 (s.readCode r) s.flags).1

/-- `RP(rp) <- (RP(rp) + 1) mod 65536` (R163). -/
def incPair (p : Pair) (s : State) : State := s.writePair p (s.readPair p + 1)

/-- `RP(rp) <- (RP(rp) - 1) mod 65536` (R164). -/
def decPair (p : Pair) (s : State) : State := s.writePair p (s.readPair p - 1)

/-- `t <- H:L + RP(rp); CY <- t[16]; H:L <- t mod 65536` (R165). -/
def addPair (p : Pair) (s : State) : State :=
  let t := s.hl.toNat + (s.readPair p).toNat
  (s.setFlags { s.flags with cy := t.testBit 16 }).writePair .hl (BitVec.ofNat 16 t)

/-- Decimal adjust (R166). -/
def decimalAdjust (s : State) : State := s.setAF (daa8 s.a s.flags)

/-- INX B, 0x03 (R163). -/
def execInxB (s : State) : Result := complete 1 (incPair .bc) s

/-- INR B, 0x04 (R161). -/
def execInrB (s : State) : Result := complete 1 (incCode .b) s

/-- DCR B, 0x05 (R162). -/
def execDcrB (s : State) : Result := complete 1 (decCode .b) s

/-- DAD B, 0x09 (R165). -/
def execDadB (s : State) : Result := complete 1 (addPair .bc) s

/-- DCX B, 0x0B (R164). -/
def execDcxB (s : State) : Result := complete 1 (decPair .bc) s

/-- INR C, 0x0C (R161). -/
def execInrC (s : State) : Result := complete 1 (incCode .c) s

/-- DCR C, 0x0D (R162). -/
def execDcrC (s : State) : Result := complete 1 (decCode .c) s

/-- INX D, 0x13 (R163). -/
def execInxD (s : State) : Result := complete 1 (incPair .de) s

/-- INR D, 0x14 (R161). -/
def execInrD (s : State) : Result := complete 1 (incCode .d) s

/-- DCR D, 0x15 (R162). -/
def execDcrD (s : State) : Result := complete 1 (decCode .d) s

/-- DAD D, 0x19 (R165). -/
def execDadD (s : State) : Result := complete 1 (addPair .de) s

/-- DCX D, 0x1B (R164). -/
def execDcxD (s : State) : Result := complete 1 (decPair .de) s

/-- INR E, 0x1C (R161). -/
def execInrE (s : State) : Result := complete 1 (incCode .e) s

/-- DCR E, 0x1D (R162). -/
def execDcrE (s : State) : Result := complete 1 (decCode .e) s

/-- INX H, 0x23 (R163). -/
def execInxH (s : State) : Result := complete 1 (incPair .hl) s

/-- INR H, 0x24 (R161). -/
def execInrH (s : State) : Result := complete 1 (incCode .h) s

/-- DCR H, 0x25 (R162). -/
def execDcrH (s : State) : Result := complete 1 (decCode .h) s

/-- DAA, 0x27 (R166). -/
def execDaa (s : State) : Result := complete 1 decimalAdjust s

/-- DAD H, 0x29 (R165). -/
def execDadH (s : State) : Result := complete 1 (addPair .hl) s

/-- DCX H, 0x2B (R164). -/
def execDcxH (s : State) : Result := complete 1 (decPair .hl) s

/-- INR L, 0x2C (R161). -/
def execInrL (s : State) : Result := complete 1 (incCode .l) s

/-- DCR L, 0x2D (R162). -/
def execDcrL (s : State) : Result := complete 1 (decCode .l) s

/-- INX SP, 0x33 (R163). -/
def execInxSP (s : State) : Result := complete 1 (incPair .sp) s

/-- INR M, 0x34 (R161). -/
def execInrM (s : State) : Result := complete 1 (incCode .m) s

/-- DCR M, 0x35 (R162). -/
def execDcrM (s : State) : Result := complete 1 (decCode .m) s

/-- DAD SP, 0x39 (R165). -/
def execDadSP (s : State) : Result := complete 1 (addPair .sp) s

/-- DCX SP, 0x3B (R164). -/
def execDcxSP (s : State) : Result := complete 1 (decPair .sp) s

/-- INR A, 0x3C (R161). -/
def execInrA (s : State) : Result := complete 1 (incCode .a) s

/-- DCR A, 0x3D (R162). -/
def execDcrA (s : State) : Result := complete 1 (decCode .a) s

/-- ADD B, 0x80 (R153). -/
def execAddB (s : State) : Result := complete 1 (addReg .b) s

/-- ADD C, 0x81 (R153). -/
def execAddC (s : State) : Result := complete 1 (addReg .c) s

/-- ADD D, 0x82 (R153). -/
def execAddD (s : State) : Result := complete 1 (addReg .d) s

/-- ADD E, 0x83 (R153). -/
def execAddE (s : State) : Result := complete 1 (addReg .e) s

/-- ADD H, 0x84 (R153). -/
def execAddH (s : State) : Result := complete 1 (addReg .h) s

/-- ADD L, 0x85 (R153). -/
def execAddL (s : State) : Result := complete 1 (addReg .l) s

/-- ADD M, 0x86 (R153). -/
def execAddM (s : State) : Result := complete 1 (addReg .m) s

/-- ADD A, 0x87 (R153). -/
def execAddA (s : State) : Result := complete 1 (addReg .a) s

/-- ADC B, 0x88 (R155). -/
def execAdcB (s : State) : Result := complete 1 (adcReg .b) s

/-- ADC C, 0x89 (R155). -/
def execAdcC (s : State) : Result := complete 1 (adcReg .c) s

/-- ADC D, 0x8A (R155). -/
def execAdcD (s : State) : Result := complete 1 (adcReg .d) s

/-- ADC E, 0x8B (R155). -/
def execAdcE (s : State) : Result := complete 1 (adcReg .e) s

/-- ADC H, 0x8C (R155). -/
def execAdcH (s : State) : Result := complete 1 (adcReg .h) s

/-- ADC L, 0x8D (R155). -/
def execAdcL (s : State) : Result := complete 1 (adcReg .l) s

/-- ADC M, 0x8E (R155). -/
def execAdcM (s : State) : Result := complete 1 (adcReg .m) s

/-- ADC A, 0x8F (R155). -/
def execAdcA (s : State) : Result := complete 1 (adcReg .a) s

/-- SUB B, 0x90 (R157). -/
def execSubB (s : State) : Result := complete 1 (subReg .b) s

/-- SUB C, 0x91 (R157). -/
def execSubC (s : State) : Result := complete 1 (subReg .c) s

/-- SUB D, 0x92 (R157). -/
def execSubD (s : State) : Result := complete 1 (subReg .d) s

/-- SUB E, 0x93 (R157). -/
def execSubE (s : State) : Result := complete 1 (subReg .e) s

/-- SUB H, 0x94 (R157). -/
def execSubH (s : State) : Result := complete 1 (subReg .h) s

/-- SUB L, 0x95 (R157). -/
def execSubL (s : State) : Result := complete 1 (subReg .l) s

/-- SUB M, 0x96 (R157). -/
def execSubM (s : State) : Result := complete 1 (subReg .m) s

/-- SUB A, 0x97 (R157). -/
def execSubA (s : State) : Result := complete 1 (subReg .a) s

/-- SBB B, 0x98 (R159). -/
def execSbbB (s : State) : Result := complete 1 (sbbReg .b) s

/-- SBB C, 0x99 (R159). -/
def execSbbC (s : State) : Result := complete 1 (sbbReg .c) s

/-- SBB D, 0x9A (R159). -/
def execSbbD (s : State) : Result := complete 1 (sbbReg .d) s

/-- SBB E, 0x9B (R159). -/
def execSbbE (s : State) : Result := complete 1 (sbbReg .e) s

/-- SBB H, 0x9C (R159). -/
def execSbbH (s : State) : Result := complete 1 (sbbReg .h) s

/-- SBB L, 0x9D (R159). -/
def execSbbL (s : State) : Result := complete 1 (sbbReg .l) s

/-- SBB M, 0x9E (R159). -/
def execSbbM (s : State) : Result := complete 1 (sbbReg .m) s

/-- SBB A, 0x9F (R159). -/
def execSbbA (s : State) : Result := complete 1 (sbbReg .a) s

/-- ADI, 0xC6 (R154). -/
def execAdi (n : Byte) (s : State) : Result := complete 2 (addImm n) s

/-- ACI, 0xCE (R156). -/
def execAci (n : Byte) (s : State) : Result := complete 2 (adcImm n) s

/-- SUI, 0xD6 (R158). -/
def execSui (n : Byte) (s : State) : Result := complete 2 (subImm n) s

/-- SBI, 0xDE (R160). -/
def execSbi (n : Byte) (s : State) : Result := complete 2 (sbbImm n) s

end Sys2Proof.Machine
end

