-- ==== Sys2Proof/Machine/Branch.lean ====
section
/-! DEFINITION. Jumps, calls, returns and restarts (43_branch.md R201 to R209): the effect of each form when PC already
holds the address of the next instruction, then one meaning per instruction. -/

namespace Sys2Proof.Machine

/-- `PC <- imm16` (R201). -/
def jumpTo (w : Word) (s : State) : State := s.setPc w

/-- `if cond(ccc): PC <- imm16` (R202). -/
def jumpIf (cc : Cond) (w : Word) (s : State) : State := if s.flags.cond cc then jumpTo w s else s

/-- `Push16(PC); PC <- imm16` (R203). -/
def callTo (w : Word) (s : State) : State := (s.push16 s.pc).setPc w

/-- `if cond(ccc): Push16(PC); PC <- imm16` (R204). -/
def callIf (cc : Cond) (w : Word) (s : State) : State := if s.flags.cond cc then callTo w s else s

/-- `if cond(ccc): PC <- Pop16()` (R206). -/
def returnIf (cc : Cond) (s : State) : State := if s.flags.cond cc then returnFromCall s else s

/-- `Push16(PC); PC <- 8 * n` (R207). -/
def restart (n : Fin 8) (s : State) : State := (s.push16 s.pc).setPc (restartVector n)

/-- `PC <- H:L` (R208). -/
def jumpToHL (s : State) : State := s.setPc s.hl

/-- RNZ, 0xC0 (R206). -/
def execRnz (s : State) : Result := complete 1 (returnIf .nz) s

/-- JNZ, 0xC2 (R202). -/
def execJnz (w : Word) (s : State) : Result := complete 3 (jumpIf .nz w) s

/-- JMP, 0xC3 (R201). -/
def execJmp (w : Word) (s : State) : Result := complete 3 (jumpTo w) s

/-- CNZ, 0xC4 (R204). -/
def execCnz (w : Word) (s : State) : Result := complete 3 (callIf .nz w) s

/-- RST 0, 0xC7 (R207). -/
def execRst0 (s : State) : Result := complete 1 (restart 0) s

/-- RZ, 0xC8 (R206). -/
def execRz (s : State) : Result := complete 1 (returnIf .z) s

/-- RET, 0xC9 (R205). -/
def execRet (s : State) : Result := complete 1 returnFromCall s

/-- JZ, 0xCA (R202). -/
def execJz (w : Word) (s : State) : Result := complete 3 (jumpIf .z w) s

/-- CZ, 0xCC (R204). -/
def execCz (w : Word) (s : State) : Result := complete 3 (callIf .z w) s

/-- CALL, 0xCD (R203). -/
def execCall (w : Word) (s : State) : Result := complete 3 (callTo w) s

/-- RST 1, 0xCF (R207). -/
def execRst1 (s : State) : Result := complete 1 (restart 1) s

/-- RNC, 0xD0 (R206). -/
def execRnc (s : State) : Result := complete 1 (returnIf .nc) s

/-- JNC, 0xD2 (R202). -/
def execJnc (w : Word) (s : State) : Result := complete 3 (jumpIf .nc w) s

/-- CNC, 0xD4 (R204). -/
def execCnc (w : Word) (s : State) : Result := complete 3 (callIf .nc w) s

/-- RST 2, 0xD7 (R207). -/
def execRst2 (s : State) : Result := complete 1 (restart 2) s

/-- RC, 0xD8 (R206). -/
def execRc (s : State) : Result := complete 1 (returnIf .c) s

/-- JC, 0xDA (R202). -/
def execJc (w : Word) (s : State) : Result := complete 3 (jumpIf .c w) s

/-- CC, 0xDC (R204). -/
def execCc (w : Word) (s : State) : Result := complete 3 (callIf .c w) s

/-- RST 3, 0xDF (R207). -/
def execRst3 (s : State) : Result := complete 1 (restart 3) s

/-- RPO, 0xE0 (R206). -/
def execRpo (s : State) : Result := complete 1 (returnIf .po) s

/-- JPO, 0xE2 (R202). -/
def execJpo (w : Word) (s : State) : Result := complete 3 (jumpIf .po w) s

/-- CPO, 0xE4 (R204). -/
def execCpo (w : Word) (s : State) : Result := complete 3 (callIf .po w) s

/-- RST 4, 0xE7 (R207). -/
def execRst4 (s : State) : Result := complete 1 (restart 4) s

/-- RPE, 0xE8 (R206). -/
def execRpe (s : State) : Result := complete 1 (returnIf .pe) s

/-- PCHL, 0xE9 (R208). -/
def execPchl (s : State) : Result := complete 1 jumpToHL s

/-- JPE, 0xEA (R202). -/
def execJpe (w : Word) (s : State) : Result := complete 3 (jumpIf .pe w) s

/-- CPE, 0xEC (R204). -/
def execCpe (w : Word) (s : State) : Result := complete 3 (callIf .pe w) s

/-- RST 5, 0xEF (R207). -/
def execRst5 (s : State) : Result := complete 1 (restart 5) s

/-- RP, 0xF0 (R206). -/
def execRp (s : State) : Result := complete 1 (returnIf .p) s

/-- JP, 0xF2 (R202). -/
def execJp (w : Word) (s : State) : Result := complete 3 (jumpIf .p w) s

/-- CP, 0xF4 (R204). -/
def execCp (w : Word) (s : State) : Result := complete 3 (callIf .p w) s

/-- RST 6, 0xF7 (R207). -/
def execRst6 (s : State) : Result := complete 1 (restart 6) s

/-- RM, 0xF8 (R206). -/
def execRm (s : State) : Result := complete 1 (returnIf .m) s

/-- JM, 0xFA (R202). -/
def execJm (w : Word) (s : State) : Result := complete 3 (jumpIf .m w) s

/-- CM, 0xFC (R204). -/
def execCm (w : Word) (s : State) : Result := complete 3 (callIf .m w) s

/-- RST 7, 0xFF (R207). -/
def execRst7 (s : State) : Result := complete 1 (restart 7) s

end Sys2Proof.Machine
end

