-- ==== Sys2Proof/Machine/DataTransfer.lean ====
section
/-! DEFINITION. Data transfer (40_data_transfer.md R130 to R142): the effect of each form after the PC advance, then
one meaning per instruction. None writes a flag. -/

namespace Sys2Proof.Machine

/-- `R(d) <- R(s)`; with M, the memory byte at HL, the address formed before any write (R130, R131, R132). -/
def moveReg (dst src : RegCode) (s : State) : State := s.writeCode dst (s.readCode src)

/-- `R(d) <- imm8`; with M, a store to HL (R133, R134). -/
def moveImm (dst : RegCode) (n : Byte) (s : State) : State := s.writeCode dst n

/-- `RP(rp) <- imm16` (R135). -/
def loadPair (p : Pair) (w : Word) (s : State) : State := s.writePair p w

/-- `A <- MemRead(imm16, 1)` (R136). -/
def loadA (w : Word) (s : State) : State := s.setA (s.memRead w)

/-- `MemWrite(imm16, 1, A)` (R137). -/
def storeA (w : Word) (s : State) : State := s.memWrite w s.a

/-- `L <- MemRead(imm16, 1); H <- MemRead((imm16 + 1) mod 65536, 1)` (R138). -/
def loadHL (w : Word) (s : State) : State := s.writePair .hl (s.memRead2 w)

/-- `MemWrite(imm16, 1, L); MemWrite((imm16 + 1) mod 65536, 1, H)` (R139). -/
def storeHL (w : Word) (s : State) : State := s.memWrite2 w s.hl

/-- `A <- MemRead(RP(rp), 1)` (R140). -/
def loadAIndirect (p : AccPair) (s : State) : State := s.setA (s.memRead (s.readAccPair p))

/-- `MemWrite(RP(rp), 1, A)` (R141). -/
def storeAIndirect (p : AccPair) (s : State) : State := s.memWrite (s.readAccPair p) s.a

/-- Exchange DE and HL (R142). -/
def exchangeDEHL (s : State) : State := { s with h := s.d, l := s.e, d := s.h, e := s.l }

/-- LXI B, 0x01 (R135). -/
def execLxiB (w : Word) (s : State) : Result := complete 3 (loadPair .bc w) s

/-- STAX B, 0x02 (R141). -/
def execStaxB (s : State) : Result := complete 1 (storeAIndirect .bc) s

/-- MVI B, 0x06 (R133). -/
def execMviB (n : Byte) (s : State) : Result := complete 2 (moveImm .b n) s

/-- LDAX B, 0x0A (R140). -/
def execLdaxB (s : State) : Result := complete 1 (loadAIndirect .bc) s

/-- MVI C, 0x0E (R133). -/
def execMviC (n : Byte) (s : State) : Result := complete 2 (moveImm .c n) s

/-- LXI D, 0x11 (R135). -/
def execLxiD (w : Word) (s : State) : Result := complete 3 (loadPair .de w) s

/-- STAX D, 0x12 (R141). -/
def execStaxD (s : State) : Result := complete 1 (storeAIndirect .de) s

/-- MVI D, 0x16 (R133). -/
def execMviD (n : Byte) (s : State) : Result := complete 2 (moveImm .d n) s

/-- LDAX D, 0x1A (R140). -/
def execLdaxD (s : State) : Result := complete 1 (loadAIndirect .de) s

/-- MVI E, 0x1E (R133). -/
def execMviE (n : Byte) (s : State) : Result := complete 2 (moveImm .e n) s

/-- LXI H, 0x21 (R135). -/
def execLxiH (w : Word) (s : State) : Result := complete 3 (loadPair .hl w) s

/-- SHLD, 0x22 (R139). -/
def execShld (w : Word) (s : State) : Result := complete 3 (storeHL w) s

/-- MVI H, 0x26 (R133). -/
def execMviH (n : Byte) (s : State) : Result := complete 2 (moveImm .h n) s

/-- LHLD, 0x2A (R138). -/
def execLhld (w : Word) (s : State) : Result := complete 3 (loadHL w) s

/-- MVI L, 0x2E (R133). -/
def execMviL (n : Byte) (s : State) : Result := complete 2 (moveImm .l n) s

/-- LXI SP, 0x31 (R135). -/
def execLxiSP (w : Word) (s : State) : Result := complete 3 (loadPair .sp w) s

/-- STA, 0x32 (R137). -/
def execSta (w : Word) (s : State) : Result := complete 3 (storeA w) s

/-- MVI M, 0x36 (R134). -/
def execMviM (n : Byte) (s : State) : Result := complete 2 (moveImm .m n) s

/-- LDA, 0x3A (R136). -/
def execLda (w : Word) (s : State) : Result := complete 3 (loadA w) s

/-- MVI A, 0x3E (R133). -/
def execMviA (n : Byte) (s : State) : Result := complete 2 (moveImm .a n) s

/-- MOV B,B, 0x40 (R130). -/
def execMovBB (s : State) : Result := complete 1 (moveReg .b .b) s

/-- MOV B,C, 0x41 (R130). -/
def execMovBC (s : State) : Result := complete 1 (moveReg .b .c) s

/-- MOV B,D, 0x42 (R130). -/
def execMovBD (s : State) : Result := complete 1 (moveReg .b .d) s

/-- MOV B,E, 0x43 (R130). -/
def execMovBE (s : State) : Result := complete 1 (moveReg .b .e) s

/-- MOV B,H, 0x44 (R130). -/
def execMovBH (s : State) : Result := complete 1 (moveReg .b .h) s

/-- MOV B,L, 0x45 (R130). -/
def execMovBL (s : State) : Result := complete 1 (moveReg .b .l) s

/-- MOV B,M, 0x46 (R131). -/
def execMovBM (s : State) : Result := complete 1 (moveReg .b .m) s

/-- MOV B,A, 0x47 (R130). -/
def execMovBA (s : State) : Result := complete 1 (moveReg .b .a) s

/-- MOV C,B, 0x48 (R130). -/
def execMovCB (s : State) : Result := complete 1 (moveReg .c .b) s

/-- MOV C,C, 0x49 (R130). -/
def execMovCC (s : State) : Result := complete 1 (moveReg .c .c) s

/-- MOV C,D, 0x4A (R130). -/
def execMovCD (s : State) : Result := complete 1 (moveReg .c .d) s

/-- MOV C,E, 0x4B (R130). -/
def execMovCE (s : State) : Result := complete 1 (moveReg .c .e) s

/-- MOV C,H, 0x4C (R130). -/
def execMovCH (s : State) : Result := complete 1 (moveReg .c .h) s

/-- MOV C,L, 0x4D (R130). -/
def execMovCL (s : State) : Result := complete 1 (moveReg .c .l) s

/-- MOV C,M, 0x4E (R131). -/
def execMovCM (s : State) : Result := complete 1 (moveReg .c .m) s

/-- MOV C,A, 0x4F (R130). -/
def execMovCA (s : State) : Result := complete 1 (moveReg .c .a) s

/-- MOV D,B, 0x50 (R130). -/
def execMovDB (s : State) : Result := complete 1 (moveReg .d .b) s

/-- MOV D,C, 0x51 (R130). -/
def execMovDC (s : State) : Result := complete 1 (moveReg .d .c) s

/-- MOV D,D, 0x52 (R130). -/
def execMovDD (s : State) : Result := complete 1 (moveReg .d .d) s

/-- MOV D,E, 0x53 (R130). -/
def execMovDE (s : State) : Result := complete 1 (moveReg .d .e) s

/-- MOV D,H, 0x54 (R130). -/
def execMovDH (s : State) : Result := complete 1 (moveReg .d .h) s

/-- MOV D,L, 0x55 (R130). -/
def execMovDL (s : State) : Result := complete 1 (moveReg .d .l) s

/-- MOV D,M, 0x56 (R131). -/
def execMovDM (s : State) : Result := complete 1 (moveReg .d .m) s

/-- MOV D,A, 0x57 (R130). -/
def execMovDA (s : State) : Result := complete 1 (moveReg .d .a) s

/-- MOV E,B, 0x58 (R130). -/
def execMovEB (s : State) : Result := complete 1 (moveReg .e .b) s

/-- MOV E,C, 0x59 (R130). -/
def execMovEC (s : State) : Result := complete 1 (moveReg .e .c) s

/-- MOV E,D, 0x5A (R130). -/
def execMovED (s : State) : Result := complete 1 (moveReg .e .d) s

/-- MOV E,E, 0x5B (R130). -/
def execMovEE (s : State) : Result := complete 1 (moveReg .e .e) s

/-- MOV E,H, 0x5C (R130). -/
def execMovEH (s : State) : Result := complete 1 (moveReg .e .h) s

/-- MOV E,L, 0x5D (R130). -/
def execMovEL (s : State) : Result := complete 1 (moveReg .e .l) s

/-- MOV E,M, 0x5E (R131). -/
def execMovEM (s : State) : Result := complete 1 (moveReg .e .m) s

/-- MOV E,A, 0x5F (R130). -/
def execMovEA (s : State) : Result := complete 1 (moveReg .e .a) s

/-- MOV H,B, 0x60 (R130). -/
def execMovHB (s : State) : Result := complete 1 (moveReg .h .b) s

/-- MOV H,C, 0x61 (R130). -/
def execMovHC (s : State) : Result := complete 1 (moveReg .h .c) s

/-- MOV H,D, 0x62 (R130). -/
def execMovHD (s : State) : Result := complete 1 (moveReg .h .d) s

/-- MOV H,E, 0x63 (R130). -/
def execMovHE (s : State) : Result := complete 1 (moveReg .h .e) s

/-- MOV H,H, 0x64 (R130). -/
def execMovHH (s : State) : Result := complete 1 (moveReg .h .h) s

/-- MOV H,L, 0x65 (R130). -/
def execMovHL (s : State) : Result := complete 1 (moveReg .h .l) s

/-- MOV H,M, 0x66 (R131). -/
def execMovHM (s : State) : Result := complete 1 (moveReg .h .m) s

/-- MOV H,A, 0x67 (R130). -/
def execMovHA (s : State) : Result := complete 1 (moveReg .h .a) s

/-- MOV L,B, 0x68 (R130). -/
def execMovLB (s : State) : Result := complete 1 (moveReg .l .b) s

/-- MOV L,C, 0x69 (R130). -/
def execMovLC (s : State) : Result := complete 1 (moveReg .l .c) s

/-- MOV L,D, 0x6A (R130). -/
def execMovLD (s : State) : Result := complete 1 (moveReg .l .d) s

/-- MOV L,E, 0x6B (R130). -/
def execMovLE (s : State) : Result := complete 1 (moveReg .l .e) s

/-- MOV L,H, 0x6C (R130). -/
def execMovLH (s : State) : Result := complete 1 (moveReg .l .h) s

/-- MOV L,L, 0x6D (R130). -/
def execMovLL (s : State) : Result := complete 1 (moveReg .l .l) s

/-- MOV L,M, 0x6E (R131). -/
def execMovLM (s : State) : Result := complete 1 (moveReg .l .m) s

/-- MOV L,A, 0x6F (R130). -/
def execMovLA (s : State) : Result := complete 1 (moveReg .l .a) s

/-- MOV M,B, 0x70 (R132). -/
def execMovMB (s : State) : Result := complete 1 (moveReg .m .b) s

/-- MOV M,C, 0x71 (R132). -/
def execMovMC (s : State) : Result := complete 1 (moveReg .m .c) s

/-- MOV M,D, 0x72 (R132). -/
def execMovMD (s : State) : Result := complete 1 (moveReg .m .d) s

/-- MOV M,E, 0x73 (R132). -/
def execMovME (s : State) : Result := complete 1 (moveReg .m .e) s

/-- MOV M,H, 0x74 (R132). -/
def execMovMH (s : State) : Result := complete 1 (moveReg .m .h) s

/-- MOV M,L, 0x75 (R132). -/
def execMovML (s : State) : Result := complete 1 (moveReg .m .l) s

/-- MOV M,A, 0x77 (R132). -/
def execMovMA (s : State) : Result := complete 1 (moveReg .m .a) s

/-- MOV A,B, 0x78 (R130). -/
def execMovAB (s : State) : Result := complete 1 (moveReg .a .b) s

/-- MOV A,C, 0x79 (R130). -/
def execMovAC (s : State) : Result := complete 1 (moveReg .a .c) s

/-- MOV A,D, 0x7A (R130). -/
def execMovAD (s : State) : Result := complete 1 (moveReg .a .d) s

/-- MOV A,E, 0x7B (R130). -/
def execMovAE (s : State) : Result := complete 1 (moveReg .a .e) s

/-- MOV A,H, 0x7C (R130). -/
def execMovAH (s : State) : Result := complete 1 (moveReg .a .h) s

/-- MOV A,L, 0x7D (R130). -/
def execMovAL (s : State) : Result := complete 1 (moveReg .a .l) s

/-- MOV A,M, 0x7E (R131). -/
def execMovAM (s : State) : Result := complete 1 (moveReg .a .m) s

/-- MOV A,A, 0x7F (R130). -/
def execMovAA (s : State) : Result := complete 1 (moveReg .a .a) s

/-- XCHG, 0xEB (R142). -/
def execXchg (s : State) : Result := complete 1 exchangeDEHL s

end Sys2Proof.Machine
end

