-- ==== Sys2Proof/Machine/Logical.lean ====
section
/-! DEFINITION. Logical, compare, rotate and carry instructions (42_logical.md R180 to R195): the effect of each form
after the PC advance, then one meaning per instruction. -/

namespace Sys2Proof.Machine

/-- `A <- and8(A, R(sss))` (R181). -/
def anaReg (r : RegCode) (s : State) : State := s.setAF (and8 s.params.andAc s.a (s.readCode r) s.flags)

/-- `A <- and8(A, imm8)` (R182). -/
def anaImm (n : Byte) (s : State) : State := s.setAF (and8 s.params.andAc s.a n s.flags)

/-- `A <- A ^ v` with the flags of a logical result (R183, R184). -/
def xorInto (v : Byte) (s : State) : State := s.setAF (s.a ^^^ v, s.flags.logic (s.a ^^^ v))

/-- XRA (R183). -/
def xraReg (r : RegCode) (s : State) : State := xorInto (s.readCode r) s

/-- XRI (R184). -/
def xraImm (n : Byte) (s : State) : State := xorInto n s

/-- `A <- A | v` with the flags of a logical result (R185, R186). -/
def orInto (v : Byte) (s : State) : State := s.setAF (s.a ||| v, s.flags.logic (s.a ||| v))

/-- ORA (R185). -/
def oraReg (r : RegCode) (s : State) : State := orInto (s.readCode r) s

/-- ORI (R186). -/
def oraImm (n : Byte) (s : State) : State := orInto n s

/-- CMP: the flags of sub8, A unchanged (R187). -/
def cmpReg (r : RegCode) (s : State) : State := s.setFlags (sub8 s.a (s.readCode r) false s.flags).2

/-- CPI: the flags of sub8, A unchanged (R188). -/
def cmpImm (n : Byte) (s : State) : State := s.setFlags (sub8 s.a n false s.flags).2

/-- A bit as a byte, in bit 0. -/
def bitByte (c : Bool) : Byte := (BitVec.ofBool c).setWidth 8

/-- Write A and CY, keep the other flags. -/
def State.setACarry (s : State) (v : Byte) (c : Bool) : State := s.setAF (v, { s.flags with cy := c })

/-- `b7 <- A[7]; A <- ((A << 1) | b7) mod 256; CY <- b7` (R189). -/
def rotateLeft (s : State) : State :=
  s.setACarry ((s.a <<< 1) ||| bitByte (s.a.getLsbD 7)) (s.a.getLsbD 7)

/-- `b0 <- A[0]; A <- (A >> 1) | (b0 << 7); CY <- b0` (R190). -/
def rotateRight (s : State) : State :=
  s.setACarry ((s.a >>> 1) ||| (bitByte (s.a.getLsbD 0) <<< 7)) (s.a.getLsbD 0)

/-- `c <- CY; CY <- A[7]; A <- ((A << 1) | c) mod 256` (R191). -/
def rotateLeftCarry (s : State) : State :=
  s.setACarry ((s.a <<< 1) ||| bitByte s.flags.cy) (s.a.getLsbD 7)

/-- `c <- CY; CY <- A[0]; A <- (A >> 1) | (c << 7)` (R192). -/
def rotateRightCarry (s : State) : State :=
  s.setACarry ((s.a >>> 1) ||| (bitByte s.flags.cy <<< 7)) (s.a.getLsbD 0)

/-- `A <- 0xFF - A`, no flag (R193). -/
def complementA (s : State) : State := s.setA (0xFF - s.a)

/-- `CY <- 1 - CY` (R194). -/
def complementCarry (s : State) : State := s.setFlags { s.flags with cy := !s.flags.cy }

/-- `CY <- 1` (R195). -/
def setCarry (s : State) : State := s.setFlags { s.flags with cy := true }

/-- RLC, 0x07 (R189). -/
def execRlc (s : State) : Result := complete 1 rotateLeft s

/-- RRC, 0x0F (R190). -/
def execRrc (s : State) : Result := complete 1 rotateRight s

/-- RAL, 0x17 (R191). -/
def execRal (s : State) : Result := complete 1 rotateLeftCarry s

/-- RAR, 0x1F (R192). -/
def execRar (s : State) : Result := complete 1 rotateRightCarry s

/-- CMA, 0x2F (R193). -/
def execCma (s : State) : Result := complete 1 complementA s

/-- STC, 0x37 (R195). -/
def execStc (s : State) : Result := complete 1 setCarry s

/-- CMC, 0x3F (R194). -/
def execCmc (s : State) : Result := complete 1 complementCarry s

/-- ANA B, 0xA0 (R181). -/
def execAnaB (s : State) : Result := complete 1 (anaReg .b) s

/-- ANA C, 0xA1 (R181). -/
def execAnaC (s : State) : Result := complete 1 (anaReg .c) s

/-- ANA D, 0xA2 (R181). -/
def execAnaD (s : State) : Result := complete 1 (anaReg .d) s

/-- ANA E, 0xA3 (R181). -/
def execAnaE (s : State) : Result := complete 1 (anaReg .e) s

/-- ANA H, 0xA4 (R181). -/
def execAnaH (s : State) : Result := complete 1 (anaReg .h) s

/-- ANA L, 0xA5 (R181). -/
def execAnaL (s : State) : Result := complete 1 (anaReg .l) s

/-- ANA M, 0xA6 (R181). -/
def execAnaM (s : State) : Result := complete 1 (anaReg .m) s

/-- ANA A, 0xA7 (R181). -/
def execAnaA (s : State) : Result := complete 1 (anaReg .a) s

/-- XRA B, 0xA8 (R183). -/
def execXraB (s : State) : Result := complete 1 (xraReg .b) s

/-- XRA C, 0xA9 (R183). -/
def execXraC (s : State) : Result := complete 1 (xraReg .c) s

/-- XRA D, 0xAA (R183). -/
def execXraD (s : State) : Result := complete 1 (xraReg .d) s

/-- XRA E, 0xAB (R183). -/
def execXraE (s : State) : Result := complete 1 (xraReg .e) s

/-- XRA H, 0xAC (R183). -/
def execXraH (s : State) : Result := complete 1 (xraReg .h) s

/-- XRA L, 0xAD (R183). -/
def execXraL (s : State) : Result := complete 1 (xraReg .l) s

/-- XRA M, 0xAE (R183). -/
def execXraM (s : State) : Result := complete 1 (xraReg .m) s

/-- XRA A, 0xAF (R183). -/
def execXraA (s : State) : Result := complete 1 (xraReg .a) s

/-- ORA B, 0xB0 (R185). -/
def execOraB (s : State) : Result := complete 1 (oraReg .b) s

/-- ORA C, 0xB1 (R185). -/
def execOraC (s : State) : Result := complete 1 (oraReg .c) s

/-- ORA D, 0xB2 (R185). -/
def execOraD (s : State) : Result := complete 1 (oraReg .d) s

/-- ORA E, 0xB3 (R185). -/
def execOraE (s : State) : Result := complete 1 (oraReg .e) s

/-- ORA H, 0xB4 (R185). -/
def execOraH (s : State) : Result := complete 1 (oraReg .h) s

/-- ORA L, 0xB5 (R185). -/
def execOraL (s : State) : Result := complete 1 (oraReg .l) s

/-- ORA M, 0xB6 (R185). -/
def execOraM (s : State) : Result := complete 1 (oraReg .m) s

/-- ORA A, 0xB7 (R185). -/
def execOraA (s : State) : Result := complete 1 (oraReg .a) s

/-- CMP B, 0xB8 (R187). -/
def execCmpB (s : State) : Result := complete 1 (cmpReg .b) s

/-- CMP C, 0xB9 (R187). -/
def execCmpC (s : State) : Result := complete 1 (cmpReg .c) s

/-- CMP D, 0xBA (R187). -/
def execCmpD (s : State) : Result := complete 1 (cmpReg .d) s

/-- CMP E, 0xBB (R187). -/
def execCmpE (s : State) : Result := complete 1 (cmpReg .e) s

/-- CMP H, 0xBC (R187). -/
def execCmpH (s : State) : Result := complete 1 (cmpReg .h) s

/-- CMP L, 0xBD (R187). -/
def execCmpL (s : State) : Result := complete 1 (cmpReg .l) s

/-- CMP M, 0xBE (R187). -/
def execCmpM (s : State) : Result := complete 1 (cmpReg .m) s

/-- CMP A, 0xBF (R187). -/
def execCmpA (s : State) : Result := complete 1 (cmpReg .a) s

/-- ANI, 0xE6 (R182). -/
def execAni (n : Byte) (s : State) : Result := complete 2 (anaImm n) s

/-- XRI, 0xEE (R184). -/
def execXri (n : Byte) (s : State) : Result := complete 2 (xraImm n) s

/-- ORI, 0xF6 (R186). -/
def execOri (n : Byte) (s : State) : Result := complete 2 (oraImm n) s

/-- CPI, 0xFE (R188). -/
def execCpi (n : Byte) (s : State) : Result := complete 2 (cmpImm n) s

end Sys2Proof.Machine
end

