-- ==== Sys2Proof/Machine/StackIoControl.lean ====
section
/-! DEFINITION. Stack, I/O and machine control (44_stack_io_control.md R220 to R231): the effect of each form after the
PC advance, then one meaning per instruction. -/

namespace Sys2Proof.Machine

/-- `Push16(RP(rp))` (R220). -/
def pushPair (p : Pair) (s : State) : State := s.push16 (s.readPair p)

/-- `Push16((A << 8) | F)` (R221). -/
def pushPSW (s : State) : State := s.push16 (joinBytes s.a s.flags.toByte)

/-- `RP(rp) <- Pop16()` (R222). -/
def popPair (p : Pair) (s : State) : State := s.dropTop.writePair p s.top16

/-- `v <- Pop16(); A <- v[15:8]`, the flags from bits 7, 6, 4, 2 and 0 (R223). -/
def popPSW (s : State) : State := s.dropTop.setAF (highByte s.top16, Flags.ofByte (lowByte s.top16))

/-- Exchange HL with the two bytes at SP and SP + 1, both read before either is written; SP unchanged (R224). -/
def exchangeTopHL (s : State) : State := (s.memWrite2 s.sp s.hl).writePair .hl s.top16

/-- `SP <- H:L` (R225). -/
def loadSpHL (s : State) : State := s.setSp s.hl

/-- `A <- PortIn(imm8)` (R226). -/
def inPort (n : Byte) (s : State) : State := s.setA (s.portIn n)

/-- `PortOut(imm8, A)` (R227). -/
def outPort (n : Byte) (s : State) : State := s.portOut n s.a

/-- `IE <- 1` (R228). -/
def enableInterrupts (s : State) : State := { s with ie := true }

/-- `IE <- 0` (R229). -/
def disableInterrupts (s : State) : State := { s with ie := false }

/-- `halted <- 1` (R230). -/
def halt (s : State) : State := { s with halted := true }

/-- Nothing (R231). -/
def noEffect (s : State) : State := s

/-- NOP, 0x00 (R231). -/
def execNop (s : State) : Result := complete 1 noEffect s

/-- HLT, 0x76 (R230). -/
def execHlt (s : State) : Result := complete 1 halt s

/-- POP B, 0xC1 (R222). -/
def execPopB (s : State) : Result := complete 1 (popPair .bc) s

/-- PUSH B, 0xC5 (R220). -/
def execPushB (s : State) : Result := complete 1 (pushPair .bc) s

/-- POP D, 0xD1 (R222). -/
def execPopD (s : State) : Result := complete 1 (popPair .de) s

/-- OUT, 0xD3 (R227). -/
def execOut (n : Byte) (s : State) : Result := complete 2 (outPort n) s

/-- PUSH D, 0xD5 (R220). -/
def execPushD (s : State) : Result := complete 1 (pushPair .de) s

/-- IN, 0xDB (R226). -/
def execInp (n : Byte) (s : State) : Result := complete 2 (inPort n) s

/-- POP H, 0xE1 (R222). -/
def execPopH (s : State) : Result := complete 1 (popPair .hl) s

/-- XTHL, 0xE3 (R224). -/
def execXthl (s : State) : Result := complete 1 exchangeTopHL s

/-- PUSH H, 0xE5 (R220). -/
def execPushH (s : State) : Result := complete 1 (pushPair .hl) s

/-- POP PSW, 0xF1 (R223). -/
def execPopPSW (s : State) : Result := complete 1 popPSW s

/-- DI, 0xF3 (R229). -/
def execDi (s : State) : Result := complete 1 disableInterrupts s

/-- PUSH PSW, 0xF5 (R221). -/
def execPushPSW (s : State) : Result := complete 1 pushPSW s

/-- SPHL, 0xF9 (R225). -/
def execSphl (s : State) : Result := complete 1 loadSpHL s

/-- EI, 0xFB (R228). -/
def execEi (s : State) : Result := complete 1 enableInterrupts s

end Sys2Proof.Machine
end

