-- ==== Sys2Proof/Machine/Undocumented.lean ====
section
/-! DEFINITION. The twelve illegal opcodes (30_encoding.md R109): under `UNDOC_POLICY = fault` each raises
UnimplementedOpcode (60_exceptions.md R250); under `alias` each runs as the instruction R109 names. -/

namespace Sys2Proof.Machine

/-- An illegal opcode under the session's policy (R109, R110). -/
def undocumented (op : Byte) (asAlias : State → Result) (s : State) : Result :=
  match s.params.undoc with
  | .fault => .next (raiseUnimplementedOpcode op s)
  | .alias8080 => asAlias s

/-- (illegal 08h), 0x08 (R109). -/
def execIllegal08h (s : State) : Result := undocumented 0x08 (complete 1 noEffect) s

/-- (illegal 10h), 0x10 (R109). -/
def execIllegal10h (s : State) : Result := undocumented 0x10 (complete 1 noEffect) s

/-- (illegal 18h), 0x18 (R109). -/
def execIllegal18h (s : State) : Result := undocumented 0x18 (complete 1 noEffect) s

/-- (illegal 20h), 0x20 (R109). -/
def execIllegal20h (s : State) : Result := undocumented 0x20 (complete 1 noEffect) s

/-- (illegal 28h), 0x28 (R109). -/
def execIllegal28h (s : State) : Result := undocumented 0x28 (complete 1 noEffect) s

/-- (illegal 30h), 0x30 (R109). -/
def execIllegal30h (s : State) : Result := undocumented 0x30 (complete 1 noEffect) s

/-- (illegal 38h), 0x38 (R109). -/
def execIllegal38h (s : State) : Result := undocumented 0x38 (complete 1 noEffect) s

/-- (illegal CBh), 0xCB (R109). -/
def execIllegalCBh (w : Word) (s : State) : Result := undocumented 0xCB (complete 3 (jumpTo w)) s

/-- (illegal D9h), 0xD9 (R109). -/
def execIllegalD9h (s : State) : Result := undocumented 0xD9 (complete 1 returnFromCall) s

/-- (illegal DDh), 0xDD (R109). -/
def execIllegalDDh (w : Word) (s : State) : Result := undocumented 0xDD (complete 3 (callTo w)) s

/-- (illegal EDh), 0xED (R109). -/
def execIllegalEDh (w : Word) (s : State) : Result := undocumented 0xED (complete 3 (callTo w)) s

/-- (illegal FDh), 0xFD (R109). -/
def execIllegalFDh (w : Word) (s : State) : Result := undocumented 0xFD (complete 3 (callTo w)) s

end Sys2Proof.Machine
end

