-- ==== Sys2Proof/Machine/Fetch.lean ====
section
/-! DEFINITION. Instruction fetch (20_memory.md R57, 30_encoding.md R110), and the bytes of a table word placed where the
next fetch reads them. -/

namespace Sys2Proof.Machine

/-- The instruction at PC: the opcode byte and the operand bytes at (PC + 1) and (PC + 2) mod 65536, read through the
same address decoding as data (R57). Bytes past the instruction's length do not matter; memory reads have no side
effect (R58). -/
def fetch (s : State) : Instr := decodeBytes (s.memRead s.pc) (s.memRead (s.pc + 1)) (s.memRead (s.pc + 2))

/-- Store a byte behind a bus address as the host's loader does, ROM included. -/
def State.placeByte (s : State) (a : Word) (v : Byte) : State := { s with mem := Memory.set s.mem (physical a) v }

/-- The three bytes of a table word (the bits at nbits and above zero) stored at PC, PC + 1 and PC + 2. -/
def State.placeTableWord (s : State) (nbits w : Nat) : State :=
  ((s.placeByte s.pc (tableByte nbits w 0)).placeByte (s.pc + 1) (tableByte nbits w 1)).placeByte (s.pc + 2)
    (tableByte nbits w 2)

end Sys2Proof.Machine
end

