-- ==== Sys2Proof/Machine/Step.lean ====
section
/-! DEFINITION. One step: one pass of the machine loop of 60_exceptions.md R263 (a CPU step, its cycles, the
controller). -/

namespace Sys2Proof.Machine

/-- One step. A faulted session has no step (30_encoding.md R110, R251). A halted CPU idles (R262). Otherwise the
instruction at PC is fetched, decoded and executed (R110), and the boundary follows (R263). -/
def step (s : State) : Host.Outcome State Fault Refusal :=
  match s.status with
  | .faulted code pc op => .fault (sessionOver code pc op)
  | .running =>
    if s.halted then .next (haltedStep s)
    else afterExec (cycles (fetch s) s) (exec (fetch s) s)

/-- The state whose next step fetches and runs exactly the instruction of a table word: its bytes stand at PC, and
the CPU is running and not halted, without which there is no fetch (R110, R262). -/
def State.withFetchWord (s : State) (nbits w : Nat) : State :=
  { s.placeTableWord nbits w with halted := false, status := .running }

end Sys2Proof.Machine
end

