-- ==== Sys2Proof/Machine/HostInterface.lean ====
section
/-! DEFINITION. The host's side of the machine before and between frames (70_reset_and_hazards.md R280 to R282, R289;
20_memory.md R62; 60_exceptions.md R268): the ROM load and its check, the input switches, the frame's snapshot. -/

namespace Sys2Proof.Machine

/-! ## The ROM -/

/-- The length of one of the four parts of the ROM image (R281). -/
def romPartLength : Nat := 2048

/-- The ROM load and check (R281, R282): four parts of exactly 2048 bytes, at 0x0000, 0x0800, 0x1000 and 0x1800. A
missing, short or over-long part is ROMLoadMismatch: status <- Faulted(2, 0x0000, 0x00), and no step ever runs. -/
def State.loadRom (s : State) (parts : List (List Byte)) : State :=
  if parts.map List.length = [romPartLength, romPartLength, romPartLength, romPartLength] then
    { s with mem := Memory.load s.mem 0x0000 parts.flatten }
  else { s with status := .faulted .romLoadMismatch 0x0000 0x00 }

/-- The whole power-on sequence up to the first frame (R280): the state, the ROM load, the check. -/
def State.boot (p : Params) (draw : PowerOnDraw) (first : Snapshot) (parts : List (List Byte)) : State :=
  (State.powerOn p draw first).loadRom parts

/-! ## The inputs -/

/-- The switches and buttons the host reads, true = closed or pressed (R62). -/
structure Controls where
  /-- port 1 bit 0 -/
  coin : Bool
  /-- port 1 bit 1 -/
  p2Start : Bool
  /-- port 1 bit 2 -/
  p1Start : Bool
  /-- port 1 bit 4, and port 0 bit 4 -/
  p1Fire : Bool
  /-- port 1 bit 5, and port 0 bit 5 -/
  p1Left : Bool
  /-- port 1 bit 6, and port 0 bit 6 -/
  p1Right : Bool
  /-- port 2 bits 1:0, the number of bases less 3 -/
  bases : BitVec 2
  /-- port 2 bit 2 -/
  tilt : Bool
  /-- port 2 bit 3: extra base at 1000 points when true, at 1500 when false -/
  extraBaseAt1000 : Bool
  /-- port 2 bit 4 -/
  p2Fire : Bool
  /-- port 2 bit 5 -/
  p2Left : Bool
  /-- port 2 bit 6 -/
  p2Right : Bool
  /-- port 2 bit 7: coin information in the demo when false -/
  coinInfoOff : Bool
  /-- port 0 bit 0 -/
  config0 : Bool
  deriving DecidableEq, Repr

/-- The three input bytes the host sets from the switches (R62). Bit 7 of ports 0 and 1 is not connected and 0; the bits
that always read 1 are forced by `PortIn` (R61). -/
def Controls.snapshot (k : Controls) : Snapshot where
  in0 := 0b0#1 ++ BitVec.ofBool k.p1Right ++ BitVec.ofBool k.p1Left ++ BitVec.ofBool k.p1Fire ++ 0b000#3 ++
    BitVec.ofBool k.config0
  in1 := 0b0#1 ++ BitVec.ofBool k.p1Right ++ BitVec.ofBool k.p1Left ++ BitVec.ofBool k.p1Fire ++ 0b0#1 ++
    BitVec.ofBool k.p1Start ++ BitVec.ofBool k.p2Start ++ BitVec.ofBool k.coin
  in2 := BitVec.ofBool k.coinInfoOff ++ BitVec.ofBool k.p2Right ++ BitVec.ofBool k.p2Left ++ BitVec.ofBool k.p2Fire ++
    BitVec.ofBool k.extraBaseAt1000 ++ BitVec.ofBool k.tilt ++ k.bases

/-- `(IN0, IN1, IN2) <- snapshot`, at the start of run_frame, before the first step of the frame (R263, R268). -/
def State.beginFrame (s : State) (snap : Snapshot) : State := { s with input := snap }

end Sys2Proof.Machine
end

