-- ==== Sys2Proof/Machine/Frame.lean ====
section
/-! DEFINITION. The machine loop by frames (60_exceptions.md R263): run_frame and a session of frames, over `step`. -/

namespace Sys2Proof.Machine

/-- How a call of run_frame ends. -/
inductive FrameResult where
  /-- the frame ended; its framebuffer is `s.framebuffer` -/
  | frame (s : State)
  /-- the session is over: the code, address and opcode byte to report (R251) -/
  | faulted (code : FaultCode) (pc : Word) (op : Byte) (s : State)
  /-- the fuel of the model ran out inside the frame (the hardware's loop has no such end) -/
  | unfinished (s : State)
  deriving DecidableEq, Repr

/-- The loop of run_frame (R263), at most `fuel` steps: it returns at the end-of-frame event or on a fault. -/
def frameLoop : Nat → State → FrameResult
  | 0, s => .unfinished s
  | fuel + 1, s =>
    match s.status with
    | .faulted code pc op => .faulted code pc op s
    | .running =>
      match step s with
      | .next t =>
        match s.phase, t.phase with
        | .preEnd, .preMid => .frame t
        | _, _ => frameLoop fuel t
      | .fault _ => .unfinished s
      | .refused _ => .unfinished s

/-- `run_frame(snapshot)`, "only while status = Running" (R263). A call on a faulted session is left open by the spec;
DESIGN CHOICE, log entry 16: it writes no snapshot and answers the fault with the state unchanged. -/
def runFrame (fuel : Nat) (snap : Snapshot) (s : State) : FrameResult :=
  match s.status with
  | .running => frameLoop fuel (s.beginFrame snap)
  | .faulted code pc op => .faulted code pc op s

/-- A session: one call of run_frame per snapshot of the host's input sequence (R43), until a frame does not end. -/
def runSession (fuel : Nat) : List Snapshot → State → FrameResult
  | [], s => .frame s
  | snap :: rest, s =>
    match runFrame fuel snap s with
    | .frame t => runSession fuel rest t
    | .faulted code pc op t => .faulted code pc op t
    | .unfinished t => .unfinished t

end Sys2Proof.Machine
end

