-- ==== Sys2Proof/Safety.lean ====
section
/-! DEFINITION. The terms the claims use: what a step keeps, what a store does, what completing means, the flag rules
restated over the integers, and the invariants of a run. -/

namespace Sys2Proof.Machine

/-! ## Safe states -/

/-- A session that has not faulted (10_state.md R32). -/
abbrev State.Safe (s : State) : Prop := s.status = .running

/-! ## Memory: kept, or changed by one store -/

/-- Every byte of memory reads as before. -/
def MemoryKept (s t : State) : Prop := ∀ x : Word, t.memRead x = s.memRead x

/-- From s to t one byte was stored at bus address a (20_memory.md R53, R54): every address of that physical byte reads
v, unless the byte is ROM; every other address reads as before. -/
def StoresByte (s t : State) (a : Word) (v : Byte) : Prop :=
  (∀ x : Word, physical x = physical a → t.memRead x = if isRom a then s.memRead x else v) ∧
  (∀ x : Word, physical x ≠ physical a → t.memRead x = s.memRead x)

/-- From s to t a 16-bit value was stored at a: the low byte at a, the high byte at (a + 1) mod 65536, each dropped on
its own where its byte is ROM (R55); every address outside the two reads as before. -/
def StoresWord (s t : State) (a v : Word) : Prop :=
  (∀ x : Word, physical x = physical a → t.memRead x = if isRom a then s.memRead x else lowByte v) ∧
  (∀ x : Word, physical x = physical (a + 1) → t.memRead x = if isRom (a + 1) then s.memRead x else highByte v) ∧
  (∀ x : Word, physical x ≠ physical a → physical x ≠ physical (a + 1) → t.memRead x = s.memRead x)

/-! ## Completion -/

/-- The instruction i has the bytes `bytes`, costs `cost` cycles in s, and completes: exec answers a next state, of
which `post` holds. -/
def Completes (i : Instr) (s : State) (bytes : List Byte) (cost : Nat) (post : State → Prop) : Prop :=
  encode i = bytes ∧ cycles i s = cost ∧ ∃ t, exec i s = .next t ∧ post t

/-! ## Frames -/

/-- Nothing but A, the flags and PC differs, PC moved on by n, and every byte of memory reads as before. -/
def AccumulatorFrame (n : Nat) (s t : State) : Prop :=
  t = { s with a := t.a, flags := t.flags, pc := t.pc } ∧ t.pc = s.pc + BitVec.ofNat 16 n ∧ MemoryKept s t

/-- Nothing but the 8-bit register r and PC differs, PC moved on by n, and every byte of memory reads as before. -/
def RegisterFrame (r : RegCode) (n : Nat) (s t : State) : Prop :=
  t = { s with b := t.b, c := t.c, d := t.d, e := t.e, h := t.h, l := t.l, a := t.a, pc := t.pc } ∧
  (∀ x : RegCode, x ≠ .m → x ≠ r → t.readCode x = s.readCode x) ∧
  t.pc = s.pc + BitVec.ofNat 16 n ∧ MemoryKept s t

/-- Nothing but memory and PC differs, and PC moved on by n. -/
def StoreFrame (n : Nat) (s t : State) : Prop :=
  t = { s with mem := t.mem, pc := t.pc } ∧ t.pc = s.pc + BitVec.ofNat 16 n

/-- Nothing but the pairs' registers, SP and PC differs; of the pairs only p may; PC moved on by n; memory reads as
before. -/
def PairFrame (p : Pair) (n : Nat) (s t : State) : Prop :=
  t = { s with b := t.b, c := t.c, d := t.d, e := t.e, h := t.h, l := t.l, sp := t.sp, pc := t.pc } ∧
  (∀ q : Pair, q ≠ p → t.readPair q = s.readPair q) ∧
  t.pc = s.pc + BitVec.ofNat 16 n ∧ MemoryKept s t

/-- Nothing but memory, SP and PC differs: SP fell by 2, PC is w, and the 16-bit value v was stored at the new SP, the
high byte at the higher address (20_memory.md R76). -/
def Pushes (v w : Word) (s t : State) : Prop :=
  t = { s with mem := t.mem, sp := t.sp, pc := t.pc } ∧ t.sp = s.sp - 2 ∧ t.pc = w ∧ StoresWord s t (s.sp - 2) v

/-! ## The flag rules over the integers -/

/-- S, Z and P from a result (41_arithmetic.md R150). -/
def SignZeroParity (r : Byte) (f : Flags) : Prop :=
  (f.s = true ↔ 128 ≤ r.toNat) ∧ (f.z = true ↔ r.toNat = 0) ∧
  (f.p = true ↔ (List.countP (fun i => r.getLsbD i) (List.range 8)) % 2 = 0)

/-- The result and flags of a + b + c (R151): CY the carry out of bit 7, AC the carry out of bit 3. -/
def SumOf (a b : Byte) (c : Bool) (r : Byte) (f : Flags) : Prop :=
  r.toNat = (a.toNat + b.toNat + c.toNat) % 256 ∧
  (f.cy = true ↔ 256 ≤ a.toNat + b.toNat + c.toNat) ∧
  (f.ac = true ↔ 16 ≤ a.toNat % 16 + b.toNat % 16 + c.toNat) ∧ SignZeroParity r f

/-- The result and flags of a - b - c (R152): CY exactly when a < b + c, AC exactly when there is no borrow from bit 4. -/
def DifferenceOf (a b : Byte) (c : Bool) (r : Byte) (f : Flags) : Prop :=
  (r.toNat : Int) = ((a.toNat : Int) - b.toNat - c.toNat) % 256 ∧
  (f.cy = true ↔ a.toNat < b.toNat + c.toNat) ∧
  (f.ac = true ↔ b.toNat % 16 + c.toNat ≤ a.toNat % 16) ∧ SignZeroParity r f

/-- The result and flags of a AND b under a policy (42_logical.md R180). -/
def ConjunctionOf (policy : AndAcPolicy) (a b : Byte) (r : Byte) (f : Flags) : Prop :=
  r = a &&& b ∧ f.cy = false ∧ SignZeroParity r f ∧
  (policy = .i8080 → (f.ac = true ↔ a.getLsbD 3 = true ∨ b.getLsbD 3 = true)) ∧
  (policy = .clear → f.ac = false) ∧ (policy = .set → f.ac = true)

/-- The flags of XRA, XRI, ORA and ORI from their result (R183 to R186). -/
def LogicFlags (r : Byte) (f : Flags) : Prop := f.cy = false ∧ f.ac = false ∧ SignZeroParity r f

/-- The flags byte as a number (10_state.md R26). -/
def flagsNumber (f : Flags) : Nat :=
  128 * f.s.toNat + 64 * f.z.toNat + 16 * f.ac.toNat + 4 * f.p.toNat + 2 + f.cy.toNat

/-- A condition holds of the flags (43_branch.md R200). -/
def Holds (f : Flags) : Cond → Prop
  | .nz => f.z = false
  | .z => f.z = true
  | .nc => f.cy = false
  | .c => f.cy = true
  | .po => f.p = false
  | .pe => f.p = true
  | .p => f.s = false
  | .m => f.s = true

/-! ## Interrupts -/

/-- From s to t an interrupt with the given vector was delivered (60_exceptions.md R257): PC was pushed, PC is the vector,
IE and halted are 0, INT_ACK_CYCLES were added, and no other register, flag or byte of memory changed. -/
def Delivers (vector : Word) (s t : State) : Prop :=
  t = { s with mem := t.mem, sp := s.sp - 2, pc := vector, ie := false, halted := false,
               cyc := s.cyc + s.params.intAckCycles } ∧
  StoresWord s t (s.sp - 2) s.pc

/-! ## Invariants -/

/-- The largest cost of one step: 18 (XTHL), or the parameter JCC_NOT_TAKEN_CYCLES if that is more (60_exceptions.md
R261). -/
def Params.stepBound (p : Params) : Nat := max 18 p.jccNotTakenCycles

/-- Between steps the counter has not reached the threshold its phase waits for (R254, R255), but for a mid-screen
overshoot past T_END, which R261 lets stand until the next boundary. -/
def TimingInv (s : State) : Prop :=
  match s.phase with
  | .preMid => s.cyc < s.params.tMid
  | .preEnd => s.cyc < max s.params.tEnd (s.params.tMid + Params.stepBound s.params + s.params.intAckCycles)

/-- What every step keeps: the memory's canonical form, the constraint on the thresholds, the timing. -/
structure State.Inv (s : State) : Prop where
  wf : Memory.wf s.mem = true
  params : s.params.ok
  timing : TimingInv s

end Sys2Proof.Machine
end

