-- ==== Sys2Proof/Certificates/Slice0/Obligations.lean ====
section
/-! DEFINITION. The statements for the provers, each from the numbered rules of spec/. -/

open Sys2Proof Sys2Proof.Machine

/-- MOV d,s copies register s into register d and changes nothing else but PC (R130). -/
def Obligations.MovCopiesRegister : Prop :=
  ∀ (dst r : RegCode) (s : State), dst ≠ .m → r ≠ .m →
    Completes (Instr.mov dst r) s [0b01#2 ++ dst.bits ++ r.bits] 5 fun t =>
      t.readCode dst = s.readCode r ∧ RegisterFrame dst 1 s t

/-- MOV d,M loads register d with the memory byte at HL, the address formed before the write (R131). -/
def Obligations.MovLoadsRegisterFromMemory : Prop :=
  ∀ (dst : RegCode) (s : State), dst ≠ .m →
    Completes (Instr.mov dst .m) s [0b01#2 ++ dst.bits ++ 0b110#3] 7 fun t =>
      t.readCode dst = s.memRead (joinBytes s.h s.l) ∧ RegisterFrame dst 1 s t

/-- MOV M,s stores register s to the byte at HL and nowhere else; a store to ROM is dropped (R132). -/
def Obligations.MovStoresRegisterToMemory : Prop :=
  ∀ (r : RegCode) (s : State), r ≠ .m →
    Completes (Instr.mov .m r) s [0b01110#5 ++ r.bits] 7 fun t =>
      StoresByte s t (joinBytes s.h s.l) (s.readCode r) ∧ StoreFrame 1 s t

/-- MVI writes its immediate byte to the register, or to the memory byte at HL (R133, R134). -/
def Obligations.MviWritesImmediate : Prop :=
  ∀ (dst : RegCode) (n : Byte) (s : State),
    (dst ≠ .m → Completes (Instr.mvi dst n) s [0b00#2 ++ dst.bits ++ 0b110#3, n] 7 fun t =>
      t.readCode dst = n ∧ RegisterFrame dst 2 s t) ∧
    (Completes (Instr.mvi .m n) s [0x36, n] 10 fun t =>
      StoresByte s t (joinBytes s.h s.l) n ∧ StoreFrame 2 s t)

/-- LXI loads a register pair or SP with its 16-bit immediate (R135). -/
def Obligations.LxiLoadsPair : Prop :=
  ∀ (w : Word) (s : State),
    (Completes (Instr.lxi .bc w) s [0x01, lowByte w, highByte w] 10 fun t =>
      t = { s with b := w.extractLsb' 8 8, c := w.extractLsb' 0 8, pc := s.pc + 3 } ∧ MemoryKept s t) ∧
    (Completes (Instr.lxi .de w) s [0x11, lowByte w, highByte w] 10 fun t =>
      t = { s with d := w.extractLsb' 8 8, e := w.extractLsb' 0 8, pc := s.pc + 3 } ∧ MemoryKept s t) ∧
    (Completes (Instr.lxi .hl w) s [0x21, lowByte w, highByte w] 10 fun t =>
      t = { s with h := w.extractLsb' 8 8, l := w.extractLsb' 0 8, pc := s.pc + 3 } ∧ MemoryKept s t) ∧
    (Completes (Instr.lxi .sp w) s [0x31, lowByte w, highByte w] 10 fun t =>
      t = { s with sp := w, pc := s.pc + 3 } ∧ MemoryKept s t)

/-- LDA loads A from, and STA stores A to, the direct address (R136, R137). -/
def Obligations.LdaStaDirect : Prop :=
  ∀ (w : Word) (s : State),
    (Completes (.lda w) s [0x3A, lowByte w, highByte w] 13 fun t => t.a = s.memRead w ∧ RegisterFrame .a 3 s t) ∧
    (Completes (.sta w) s [0x32, lowByte w, highByte w] 13 fun t => StoresByte s t w s.a ∧ StoreFrame 3 s t)

/-- LHLD loads L and H from, and SHLD stores L and H to, two successive addresses (R138, R139). -/
def Obligations.LhldShldDirect : Prop :=
  ∀ (w : Word) (s : State),
    (Completes (.lhld w) s [0x2A, lowByte w, highByte w] 16 fun t =>
      t = { s with l := s.memRead w, h := s.memRead (w + 1), pc := s.pc + 3 } ∧ MemoryKept s t) ∧
    (Completes (.shld w) s [0x22, lowByte w, highByte w] 16 fun t =>
      StoresWord s t w (joinBytes s.h s.l) ∧ StoreFrame 3 s t)

/-- LDAX loads A from, and STAX stores A to, the address in BC or DE (R140, R141). -/
def Obligations.LdaxStaxIndirect : Prop :=
  ∀ (p : AccPair) (s : State),
    (Completes (Instr.ldax p) s [0b000#3 ++ p.bit ++ 0b1010#4] 7 fun t =>
      t.a = s.memRead (if p = .bc then joinBytes s.b s.c else joinBytes s.d s.e) ∧ RegisterFrame .a 1 s t) ∧
    (Completes (Instr.stax p) s [0b000#3 ++ p.bit ++ 0b0010#4] 7 fun t =>
      StoresByte s t (if p = .bc then joinBytes s.b s.c else joinBytes s.d s.e) s.a ∧ StoreFrame 1 s t)

/-- XCHG exchanges DE and HL (R142). -/
def Obligations.XchgExchangesPairs : Prop :=
  ∀ s : State, Completes .xchg s [0xEB] 4 fun t =>
    t = { s with h := s.d, l := s.e, d := s.h, e := s.l, pc := s.pc + 1 } ∧ MemoryKept s t

/-- ADD, ADI, ADC and ACI give the sum modulo 256 and the five flags of the carry rules (R150, R151, R153, R154, R155,
R156). -/
def Obligations.AdditionSetsResultAndFlags : Prop :=
  ∀ (r : RegCode) (n : Byte) (s : State),
    (Completes (Instr.add r) s [0b10000#5 ++ r.bits] (if r = .m then 7 else 4) fun t => SumOf s.a (s.readCode r) false t.a t.flags ∧ AccumulatorFrame 1 s t) ∧
    (Completes (.adi n) s [0xC6, n] 7 fun t => SumOf s.a n false t.a t.flags ∧ AccumulatorFrame 2 s t) ∧
    (Completes (Instr.adc r) s [0b10001#5 ++ r.bits] (if r = .m then 7 else 4) fun t => SumOf s.a (s.readCode r) s.flags.cy t.a t.flags ∧ AccumulatorFrame 1 s t) ∧
    (Completes (.aci n) s [0xCE, n] 7 fun t => SumOf s.a n s.flags.cy t.a t.flags ∧ AccumulatorFrame 2 s t)

/-- SUB, SUI, SBB and SBI give the difference modulo 256; CY is the borrow and AC its complement at bit 3 (R152, R157,
R158, R159, R160). -/
def Obligations.SubtractionSetsResultAndFlags : Prop :=
  ∀ (r : RegCode) (n : Byte) (s : State),
    (Completes (Instr.sub r) s [0b10010#5 ++ r.bits] (if r = .m then 7 else 4) fun t => DifferenceOf s.a (s.readCode r) false t.a t.flags ∧ AccumulatorFrame 1 s t) ∧
    (Completes (.sui n) s [0xD6, n] 7 fun t => DifferenceOf s.a n false t.a t.flags ∧ AccumulatorFrame 2 s t) ∧
    (Completes (Instr.sbb r) s [0b10011#5 ++ r.bits] (if r = .m then 7 else 4) fun t => DifferenceOf s.a (s.readCode r) s.flags.cy t.a t.flags ∧ AccumulatorFrame 1 s t) ∧
    (Completes (.sbi n) s [0xDE, n] 7 fun t => DifferenceOf s.a n s.flags.cy t.a t.flags ∧ AccumulatorFrame 2 s t)

/-- CMP and CPI write the flags of the subtraction and leave A unchanged (R187, R188). -/
def Obligations.CompareSetsFlagsOnly : Prop :=
  ∀ (r : RegCode) (n : Byte) (s : State),
    (Completes (Instr.cmp r) s [0b10111#5 ++ r.bits] (if r = .m then 7 else 4) fun t =>
      (∃ diff : Byte, DifferenceOf s.a (s.readCode r) false diff t.flags) ∧ (t.flags.z = true ↔ s.a = s.readCode r) ∧
      (t.flags.cy = true ↔ s.a.toNat < (s.readCode r).toNat) ∧
      t = { s with flags := t.flags, pc := s.pc + 1 } ∧ MemoryKept s t) ∧
    (Completes (.cpi n) s [0xFE, n] 7 fun t =>
      (∃ diff : Byte, DifferenceOf s.a n false diff t.flags) ∧ (t.flags.z = true ↔ s.a = n) ∧
      (t.flags.cy = true ↔ s.a.toNat < n.toNat) ∧
      t = { s with flags := t.flags, pc := s.pc + 2 } ∧ MemoryKept s t)

/-- INR adds 1 to its register or memory operand, writes S Z AC P and keeps CY (R161). -/
def Obligations.InrIncrementsOperand : Prop :=
  ∀ (r : RegCode) (s : State),
    (r ≠ .m → Completes (Instr.inr r) s [0b00#2 ++ r.bits ++ 0b100#3] 5 fun t =>
      (t.readCode r).toNat = ((s.readCode r).toNat + 1) % 256 ∧ SignZeroParity (t.readCode r) t.flags ∧
      (t.flags.ac = true ↔ (s.readCode r).toNat % 16 = 15) ∧ t.flags.cy = s.flags.cy ∧
      RegisterFrame r 1 { s with flags := t.flags } t) ∧
    (Completes (Instr.inr .m) s [0x34] 10 fun t =>
      ∃ v : Byte, v.toNat = ((s.memRead (joinBytes s.h s.l)).toNat + 1) % 256 ∧ SignZeroParity v t.flags ∧
      (t.flags.ac = true ↔ (s.memRead (joinBytes s.h s.l)).toNat % 16 = 15) ∧ t.flags.cy = s.flags.cy ∧
      StoresByte s t (joinBytes s.h s.l) v ∧ t = { s with mem := t.mem, flags := t.flags, pc := s.pc + 1 })

/-- DCR subtracts 1 from its register or memory operand, writes S Z AC P and keeps CY (R162). -/
def Obligations.DcrDecrementsOperand : Prop :=
  ∀ (r : RegCode) (s : State),
    (r ≠ .m → Completes (Instr.dcr r) s [0b00#2 ++ r.bits ++ 0b101#3] 5 fun t =>
      (t.readCode r).toNat = ((s.readCode r).toNat + 255) % 256 ∧ SignZeroParity (t.readCode r) t.flags ∧
      (t.flags.ac = true ↔ (s.readCode r).toNat % 16 ≠ 0) ∧ t.flags.cy = s.flags.cy ∧
      RegisterFrame r 1 { s with flags := t.flags } t) ∧
    (Completes (Instr.dcr .m) s [0x35] 10 fun t =>
      ∃ v : Byte, v.toNat = ((s.memRead (joinBytes s.h s.l)).toNat + 255) % 256 ∧ SignZeroParity v t.flags ∧
      (t.flags.ac = true ↔ (s.memRead (joinBytes s.h s.l)).toNat % 16 ≠ 0) ∧ t.flags.cy = s.flags.cy ∧
      StoresByte s t (joinBytes s.h s.l) v ∧ t = { s with mem := t.mem, flags := t.flags, pc := s.pc + 1 })

/-- INX and DCX change a pair or SP by one modulo 65536 and write no flag (R163, R164). -/
def Obligations.InxDcxCountPairs : Prop :=
  ∀ (p : Pair) (s : State),
    (Completes (Instr.inx p) s [0b00#2 ++ p.bits ++ 0b0011#4] 5 fun t =>
      (t.readPair p).toNat = ((s.readPair p).toNat + 1) % 65536 ∧ PairFrame p 1 s t) ∧
    (Completes (Instr.dcx p) s [0b00#2 ++ p.bits ++ 0b1011#4] 5 fun t =>
      (t.readPair p).toNat = ((s.readPair p).toNat + 65535) % 65536 ∧ PairFrame p 1 s t)

/-- DAD adds a pair to HL modulo 65536 and writes CY only (R165). -/
def Obligations.DadAddsPairToHl : Prop :=
  ∀ (p : Pair) (s : State), Completes (Instr.dad p) s [0b00#2 ++ p.bits ++ 0b1001#4] 10 fun t =>
    (joinBytes t.h t.l).toNat = ((joinBytes s.h s.l).toNat + (s.readPair p).toNat) % 65536 ∧
    (t.flags.cy = true ↔ 65536 ≤ (joinBytes s.h s.l).toNat + (s.readPair p).toNat) ∧
    t = { s with h := t.h, l := t.l, flags := { s.flags with cy := t.flags.cy }, pc := s.pc + 1 } ∧ MemoryKept s t

/-- DAA adds 6 and 60h by the low and high digit rules and sets the five flags (R166). -/
def Obligations.DaaAdjustsAccumulator : Prop :=
  ∀ s : State, Completes .daa s [0x27] 4 fun t =>
    let lo := s.a.toNat % 16
    let hi := s.a.toNat / 16
    let fixLow := s.flags.ac || decide (9 < lo)
    let fixHigh := s.flags.cy || decide (9 < hi) || (decide (9 ≤ hi) && decide (9 < lo))
    t.a.toNat = (s.a.toNat + (if fixLow then 6 else 0) + (if fixHigh then 0x60 else 0)) % 256 ∧
    t.flags.cy = fixHigh ∧ t.flags.ac = decide (15 < lo + (if fixLow then 6 else 0)) ∧
    SignZeroParity t.a t.flags ∧ AccumulatorFrame 1 s t

/-- ANA and ANI give the AND, clear CY, and set AC by AND_AC_POLICY (R180, R181, R182). -/
def Obligations.AndSetsResultAndFlags : Prop :=
  ∀ (r : RegCode) (n : Byte) (s : State),
    (Completes (Instr.ana r) s [0b10100#5 ++ r.bits] (if r = .m then 7 else 4) fun t => ConjunctionOf s.params.andAc s.a (s.readCode r) t.a t.flags ∧ AccumulatorFrame 1 s t) ∧
    (Completes (.ani n) s [0xE6, n] 7 fun t => ConjunctionOf s.params.andAc s.a n t.a t.flags ∧ AccumulatorFrame 2 s t)

/-- XRA, XRI, ORA and ORI give the result, clear CY and AC, and set S Z P from it (R183, R184, R185, R186). -/
def Obligations.XorOrSetResultAndFlags : Prop :=
  ∀ (r : RegCode) (n : Byte) (s : State),
    (Completes (Instr.xra r) s [0b10101#5 ++ r.bits] (if r = .m then 7 else 4) fun t => t.a = s.a ^^^ s.readCode r ∧ LogicFlags t.a t.flags ∧ AccumulatorFrame 1 s t) ∧
    (Completes (.xri n) s [0xEE, n] 7 fun t => t.a = s.a ^^^ n ∧ LogicFlags t.a t.flags ∧ AccumulatorFrame 2 s t) ∧
    (Completes (Instr.ora r) s [0b10110#5 ++ r.bits] (if r = .m then 7 else 4) fun t => t.a = s.a ||| s.readCode r ∧ LogicFlags t.a t.flags ∧ AccumulatorFrame 1 s t) ∧
    (Completes (.ori n) s [0xF6, n] 7 fun t => t.a = s.a ||| n ∧ LogicFlags t.a t.flags ∧ AccumulatorFrame 2 s t)

/-- RLC, RRC, RAL and RAR rotate A by one and write CY only (R189, R190, R191, R192). -/
def Obligations.RotatesMoveBitsAndCarry : Prop :=
  ∀ s : State,
    (Completes .rlc s [0x07] 4 fun t =>
      (∀ i : Nat, i < 8 → t.a.getLsbD i = s.a.getLsbD ((i + 7) % 8)) ∧
      t.flags = { s.flags with cy := s.a.getLsbD 7 } ∧ AccumulatorFrame 1 s t) ∧
    (Completes .rrc s [0x0F] 4 fun t =>
      (∀ i : Nat, i < 8 → t.a.getLsbD i = s.a.getLsbD ((i + 1) % 8)) ∧
      t.flags = { s.flags with cy := s.a.getLsbD 0 } ∧ AccumulatorFrame 1 s t) ∧
    (Completes .ral s [0x17] 4 fun t =>
      (∀ i : Nat, i < 8 → t.a.getLsbD i = if i = 0 then s.flags.cy else s.a.getLsbD (i - 1)) ∧
      t.flags = { s.flags with cy := s.a.getLsbD 7 } ∧ AccumulatorFrame 1 s t) ∧
    (Completes .rar s [0x1F] 4 fun t =>
      (∀ i : Nat, i < 8 → t.a.getLsbD i = if i = 7 then s.flags.cy else s.a.getLsbD (i + 1)) ∧
      t.flags = { s.flags with cy := s.a.getLsbD 0 } ∧ AccumulatorFrame 1 s t)

/-- CMA complements A without flags; CMC complements CY; STC sets CY (R193, R194, R195). -/
def Obligations.ComplementsAndCarryInstructions : Prop :=
  ∀ s : State,
    (Completes .cma s [0x2F] 4 fun t =>
      t.a.toNat = 255 - s.a.toNat ∧ t.flags = s.flags ∧ AccumulatorFrame 1 s t) ∧
    (Completes .cmc s [0x3F] 4 fun t =>
      t = { s with flags := { s.flags with cy := !s.flags.cy }, pc := s.pc + 1 } ∧ MemoryKept s t) ∧
    (Completes .stc s [0x37] 4 fun t =>
      t = { s with flags := { s.flags with cy := true }, pc := s.pc + 1 } ∧ MemoryKept s t)

/-- JMP loads PC with its immediate and PCHL loads PC with HL (R201, R208). -/
def Obligations.UnconditionalJumps : Prop :=
  ∀ (w : Word) (s : State),
    (Completes (.jmp w) s [0xC3, lowByte w, highByte w] 10 fun t => t = { s with pc := w } ∧ MemoryKept s t) ∧
    (Completes .pchl s [0xE9] 5 fun t => t = { s with pc := joinBytes s.h s.l } ∧ MemoryKept s t)

/-- Jcc jumps exactly when its condition holds, otherwise PC is the next instruction (R200, R202). -/
def Obligations.ConditionalJumps : Prop :=
  ∀ (cc : Cond) (w : Word) (s : State),
    (Holds s.flags cc → Completes (Instr.jcc cc w) s [0b11#2 ++ cc.bits ++ 0b010#3, lowByte w, highByte w] 10 fun t =>
      t = { s with pc := w } ∧ MemoryKept s t) ∧
    (¬ Holds s.flags cc →
      Completes (Instr.jcc cc w) s [0b11#2 ++ cc.bits ++ 0b010#3, lowByte w, highByte w] s.params.jccNotTakenCycles fun t =>
        t = { s with pc := s.pc + 3 } ∧ MemoryKept s t)

/-- CALL and a taken Ccc push the next instruction's address and jump; a Ccc not taken pushes nothing (R200, R203,
R204). -/
def Obligations.CallsPushReturnAddress : Prop :=
  ∀ (cc : Cond) (w : Word) (s : State),
    (Completes (.call w) s [0xCD, lowByte w, highByte w] 17 fun t => Pushes (s.pc + 3) w s t) ∧
    (Holds s.flags cc → Completes (Instr.ccc cc w) s [0b11#2 ++ cc.bits ++ 0b100#3, lowByte w, highByte w] 17 fun t =>
      Pushes (s.pc + 3) w s t) ∧
    (¬ Holds s.flags cc → Completes (Instr.ccc cc w) s [0b11#2 ++ cc.bits ++ 0b100#3, lowByte w, highByte w] 11 fun t =>
      t = { s with pc := s.pc + 3 } ∧ MemoryKept s t)

/-- RET and a taken Rcc pop PC and restore nothing else; an Rcc not taken reads nothing (R200, R205, R206). -/
def Obligations.ReturnsPopProgramCounter : Prop :=
  ∀ (cc : Cond) (s : State),
    (Completes .ret s [0xC9] 10 fun t =>
      t = { s with pc := joinBytes (s.memRead (s.sp + 1)) (s.memRead s.sp), sp := s.sp + 2 } ∧ MemoryKept s t) ∧
    (Holds s.flags cc → Completes (Instr.rcc cc) s [0b11#2 ++ cc.bits ++ 0b000#3] 11 fun t =>
      t = { s with pc := joinBytes (s.memRead (s.sp + 1)) (s.memRead s.sp), sp := s.sp + 2 } ∧ MemoryKept s t) ∧
    (¬ Holds s.flags cc → Completes (Instr.rcc cc) s [0b11#2 ++ cc.bits ++ 0b000#3] 5 fun t =>
      t = { s with pc := s.pc + 1 } ∧ MemoryKept s t)

/-- RST n pushes the address after it and jumps to 8n; IE and halted are not changed (R207). -/
def Obligations.RestartsPushAndVector : Prop :=
  ∀ (n : Fin 8) (s : State), Completes (Instr.rst n) s [0b11#2 ++ BitVec.ofNat 3 n.val ++ 0b111#3] 11 fun t =>
    Pushes (s.pc + 1) (BitVec.ofNat 16 (8 * n.val)) s t

/-- PUSH B, D and H store the pair below SP; POP B, D and H load it back; SP moves by 2 (R220, R222). -/
def Obligations.PushAndPopPairs : Prop :=
  ∀ s : State,
    (Completes (Instr.push .bc) s [0xC5] 11 fun t => Pushes (joinBytes s.b s.c) (s.pc + 1) s t) ∧
    (Completes (Instr.push .de) s [0xD5] 11 fun t => Pushes (joinBytes s.d s.e) (s.pc + 1) s t) ∧
    (Completes (Instr.push .hl) s [0xE5] 11 fun t => Pushes (joinBytes s.h s.l) (s.pc + 1) s t) ∧
    (Completes (Instr.pop .bc) s [0xC1] 10 fun t =>
      t = { s with c := s.memRead s.sp, b := s.memRead (s.sp + 1), sp := s.sp + 2, pc := s.pc + 1 } ∧ MemoryKept s t) ∧
    (Completes (Instr.pop .de) s [0xD1] 10 fun t =>
      t = { s with e := s.memRead s.sp, d := s.memRead (s.sp + 1), sp := s.sp + 2, pc := s.pc + 1 } ∧ MemoryKept s t) ∧
    (Completes (Instr.pop .hl) s [0xE1] 10 fun t =>
      t = { s with l := s.memRead s.sp, h := s.memRead (s.sp + 1), sp := s.sp + 2, pc := s.pc + 1 } ∧ MemoryKept s t)

/-- PUSH PSW stores A and the flags image; POP PSW loads A and the five flags and ignores the fixed bits (R26, R221,
R223). -/
def Obligations.PswPushAndPop : Prop :=
  ∀ s : State,
    (Completes (Instr.push .psw) s [0xF5] 11 fun t =>
      Pushes (joinBytes s.a (BitVec.ofNat 8 (flagsNumber s.flags))) (s.pc + 1) s t) ∧
    (Completes (Instr.pop .psw) s [0xF1] 10 fun t =>
      let f := s.memRead s.sp
      t = { s with a := s.memRead (s.sp + 1), sp := s.sp + 2, pc := s.pc + 1,
                   flags := { s := f.getLsbD 7, z := f.getLsbD 6, ac := f.getLsbD 4, p := f.getLsbD 2, cy := f.getLsbD 0 } } ∧
      MemoryKept s t)

/-- XTHL exchanges HL with the two bytes at SP; SPHL copies HL to SP (R224, R225). -/
def Obligations.XthlAndSphl : Prop :=
  ∀ s : State,
    (Completes .xthl s [0xE3] 18 fun t =>
      t = { s with l := s.memRead s.sp, h := s.memRead (s.sp + 1), mem := t.mem, pc := s.pc + 1 } ∧
      StoresWord s t s.sp (joinBytes s.h s.l)) ∧
    (Completes .sphl s [0xF9] 5 fun t => t = { s with sp := joinBytes s.h s.l, pc := s.pc + 1 } ∧ MemoryKept s t)

/-- IN reads the input bytes with their fixed bits, the shift result, or 0x00 (R61, R66, R226). -/
def Obligations.InReadsPort : Prop :=
  ∀ (p : Byte) (s : State), Completes (.inp p) s [0xDB, p] 10 fun t =>
    (p.toNat = 0 → t.a = s.input.in0 ||| 0b00001110) ∧ (p.toNat = 1 → t.a = s.input.in1 ||| 0b00001000) ∧
    (p.toNat = 2 → t.a = s.input.in2) ∧ (p.toNat = 3 → t.a = s.shv.extractLsb' (8 - s.sha.toNat) 8) ∧
    (3 < p.toNat → t.a = 0) ∧ RegisterFrame .a 2 s t

/-- OUT 2 sets the shift amount, OUT 4 shifts a byte in at the top, every other port changes nothing (R63, R64, R65,
R227). -/
def Obligations.OutWritesPort : Prop :=
  ∀ (p : Byte) (s : State), Completes (.out p) s [0xD3, p] 10 fun t =>
    t = { s with shv := t.shv, sha := t.sha, pc := s.pc + 2 } ∧ MemoryKept s t ∧
    t.sha.toNat = (if p.toNat = 2 then s.a.toNat % 8 else s.sha.toNat) ∧
    t.shv.toNat = (if p.toNat = 4 then 256 * s.a.toNat + s.shv.toNat / 256 else s.shv.toNat) ∧
    (∀ q : Byte, q.toNat ≠ 3 → t.portIn q = s.portIn q)

/-- EI sets IE and DI clears it; the controller sees the new IE at the boundary right after the instruction (R228,
R229, R285). -/
def Obligations.EiAndDiTakeEffectAtOnce : Prop :=
  ∀ s : State,
    (Completes .ei s [0xFB] 4 fun t => t = { s with ie := true, pc := s.pc + 1 } ∧ MemoryKept s t) ∧
    (Completes .di s [0xF3] 4 fun t => t = { s with ie := false, pc := s.pc + 1 } ∧ MemoryKept s t) ∧
    (s.status = .running → s.halted = false → s.memRead s.pc = 0xFB →
      step s = .next (boundary 4 { s with ie := true, pc := s.pc + 1 }) ∧
      (s.phase = .preMid → s.params.tMid ≤ s.cyc + 4 → ∃ t, step s = .next t ∧
        Delivers 0x0008 { s with ie := true, pc := s.pc + 1, cyc := s.cyc + 4, phase := .preEnd } t)) ∧
    (s.status = .running → s.halted = false → s.memRead s.pc = 0xF3 →
      step s = .next (boundary 4 { s with ie := false, pc := s.pc + 1 }) ∧
      (s.phase = .preMid → s.params.tMid ≤ s.cyc + 4 →
        step s = .next { s with ie := false, pc := s.pc + 1, cyc := s.cyc + 4, phase := .preEnd }))

/-- HLT sets halted with PC after the HLT byte; NOP changes PC alone (R230, R231). -/
def Obligations.HaltAndNop : Prop :=
  ∀ s : State,
    (Completes .hlt s [0x76] 7 fun t => t = { s with halted := true, pc := s.pc + 1 } ∧ MemoryKept s t) ∧
    (Completes .nop s [0x00] 4 fun t => t = { s with pc := s.pc + 1 } ∧ MemoryKept s t)

/-- The twelve illegal opcodes raise UnimplementedOpcode under fault and run as NOP, JMP, RET or CALL under the alias
policy (R109). -/
def Obligations.IllegalOpcodesFollowPolicy : Prop :=
  ∀ (w : Word) (s : State),
    (∀ p ∈ [((.illegal08h : Instr), (0x08 : Byte)), (.illegal10h, 0x10), (.illegal18h, 0x18), (.illegal20h, 0x20),
            (.illegal28h, 0x28), (.illegal30h, 0x30), (.illegal38h, 0x38), (.illegalCBh w, 0xCB), (.illegalD9h, 0xD9),
            (.illegalDDh w, 0xDD), (.illegalEDh w, 0xED), (.illegalFDh w, 0xFD)],
      (encode p.1).head? = some p.2 ∧ p.1.documented = false ∧
      (s.params.undoc = .fault →
        exec p.1 s = .next { s with status := .faulted .unimplementedOpcode s.pc p.2 })) ∧
    (s.params.undoc = .alias8080 →
      (∀ i ∈ [(.illegal08h : Instr), .illegal10h, .illegal18h, .illegal20h, .illegal28h, .illegal30h, .illegal38h],
        i.length = 1 ∧ cycles i s = 4 ∧ exec i s = .next { s with pc := s.pc + 1 }) ∧
      ((Instr.illegalCBh w).length = 3 ∧ cycles (.illegalCBh w) s = 10 ∧
        exec (.illegalCBh w) s = .next { s with pc := w }) ∧
      (Instr.illegalD9h.length = 1 ∧ cycles .illegalD9h s = 10 ∧
        exec .illegalD9h s =
          .next { s with pc := joinBytes (s.memRead (s.sp + 1)) (s.memRead s.sp), sp := s.sp + 2 }) ∧
      (∀ i ∈ [Instr.illegalDDh w, .illegalEDh w, .illegalFDh w],
        i.length = 3 ∧ cycles i s = 17 ∧ ∃ t, exec i s = .next t ∧ Pushes (s.pc + 3) w s t))

/-- A step that fetches an illegal opcode sets status to Faulted(1, pc, op) and changes nothing else (R250). -/
def Obligations.IllegalOpcodeStepFaults : Prop :=
  ∀ s : State, s.status = .running → s.halted = false → s.params.undoc = .fault →
    s.memRead s.pc ∈ ([0x08, 0x10, 0x18, 0x20, 0x28, 0x30, 0x38, 0xCB, 0xD9, 0xDD, 0xED, 0xFD] : List Byte) →
    step s = .next { s with status := .faulted .unimplementedOpcode s.pc (s.memRead s.pc) } ∧
    FaultCode.unimplementedOpcode.number = 1

/-- A faulted session takes no further step; the step reports the fault record (R251, R110, 60_exceptions.md). That the
answer is a fault is the model's choice, log entry 7. -/
def Obligations.FaultedSessionHasNoStep : Prop :=
  ∀ (s : State) (pc : Word) (op : Byte),
    (s.status = .faulted .unimplementedOpcode pc op → step s = .fault (.unimplementedOpcode pc op)) ∧
    (s.status = .faulted .romLoadMismatch pc op → step s = .fault (.romLoadMismatch pc op)) ∧
    (s.status ≠ .running → ∀ t, step s ≠ .next t)

/-- A step executes the instruction that the bytes at PC decode to, then adds its cycles and runs the boundary (R110,
R57, R263). That a faulted next state ends the step without a boundary is R250; the split of exec and cost is log
entry 14. -/
def Obligations.StepRunsDecodedInstruction : Prop :=
  ∀ (s : State) (i : Instr) (rest : List Byte), s.status = .running → s.halted = false →
    decode [s.memRead s.pc, s.memRead (s.pc + 1), s.memRead (s.pc + 2)] = .ok (i, rest) →
    (∀ t, exec i s = .next t → t.status = .running → step s = .next (boundary (cycles i s) t)) ∧
    (∀ t, exec i s = .next t → t.status ≠ .running → step s = .next t) ∧
    (∀ r, exec i s = .fault r → step s = .fault r) ∧ (∀ r, exec i s = .refused r → step s = .refused r)

/-- A halted CPU fetches nothing: a step adds 7 cycles and runs the boundary (R262, R230, R271). -/
def Obligations.HaltedCpuIdles : Prop :=
  ∀ s : State, s.status = .running → s.halted = true →
    step s = .next (boundary 7 s) ∧
    (s.cyc + 7 < (if s.phase = .preMid then s.params.tMid else s.params.tEnd) →
      step s = .next { s with cyc := s.cyc + 7 })

/-- At the first boundary with cyc at or above the threshold of its phase, interrupt 1 or 2 is offered; the end of
frame also rasterizes (R253, R254, R255, R256, R257, R264). -/
def Obligations.ControllerEvents : Prop :=
  ∀ (c : Nat) (s : State),
    (s.phase = .preMid →
      (s.cyc + c < s.params.tMid → boundary c s = { s with cyc := s.cyc + c }) ∧
      (s.params.tMid ≤ s.cyc + c → s.ie = false → boundary c s = { s with cyc := s.cyc + c, phase := .preEnd }) ∧
      (s.params.tMid ≤ s.cyc + c → s.ie = true →
        Delivers 0x0008 { s with cyc := s.cyc + c, phase := .preEnd } (boundary c s))) ∧
    (s.phase = .preEnd →
      (s.cyc + c < s.params.tEnd → boundary c s = { s with cyc := s.cyc + c }) ∧
      (s.params.tEnd ≤ s.cyc + c → ∃ u : State,
        (s.ie = false → u = { s with cyc := s.cyc + c }) ∧
        (s.ie = true → Delivers 0x0010 { s with cyc := s.cyc + c } u) ∧
        boundary c s = { u with framebuffer := some (rasterize u), cyc := 0, phase := .preMid,
                                input := (boundary c s).input, upcoming := (boundary c s).upcoming }))

/-- The rasterizer writes bit b of video-RAM byte i to row 255 - (8 (i mod 32) + b), column i / 32 (R71, R72, R73). -/
def Obligations.RasterizerMapsEveryPixel : Prop :=
  ∀ s : State,
    (∀ i b : Nat, i < 7168 → b < 8 →
      ((rasterize s)[255 - (8 * (i % 32) + b)]?.bind fun row => row[i / 32]?) =
        some ((s.memRead (BitVec.ofNat 16 (0x2400 + i))).getLsbD b)) ∧
    (∀ y x : Nat, y < 256 → x < 224 →
      ∃ i b : Nat, (i < 7168 ∧ b < 8 ∧ y = 255 - (8 * (i % 32) + b) ∧ x = i / 32) ∧
        ∀ i' b' : Nat, i' < 7168 → b' < 8 → y = 255 - (8 * (i' % 32) + b') → x = i' / 32 → i' = i ∧ b' = b)

/-- Decoding the encoding of any instruction gives it back, with the rest of the bytes untouched (30_encoding.md R100
to R112). -/
def Obligations.DecodeEncodeRoundTrip : Prop :=
  ∀ (i : Instr) (rest : List Byte),
    decode (encode i ++ rest) = .ok (i, rest)

/-- Each of the 256 opcode bytes selects exactly one instruction; exactly twelve are illegal (R112). -/
def Obligations.EveryOpcodeSelectsOneRow : Prop :=
  ∀ op b1 b2 : Byte,
    encode (decodeBytes op b1 b2) = [op, b1, b2].take (decodeBytes op b1 b2).length ∧
    ((decodeBytes op b1 b2).documented = false ↔
      op ∈ ([0x08, 0x10, 0x18, 0x20, 0x28, 0x30, 0x38, 0xCB, 0xD9, 0xDD, 0xED, 0xFD] : List Byte))

/-- The encodings of the spec's table of examples decode to their instructions (95_test_vectors.md section 2.1). -/
def Obligations.SampleWordsDecode : Prop :=
  (decode [0x48]).toOption = some (.movCB, []) ∧ (decode [0x7E]).toOption = some (.movAM, []) ∧
  (decode [0x77]).toOption = some (.movMA, []) ∧ (decode [0x76]).toOption = some (.hlt, []) ∧
  (decode [0x3E, 0x42]).toOption = some (.mviA 0x42, []) ∧ (decode [0x31, 0x00, 0x24]).toOption = some (.lxiSP 0x2400, []) ∧
  (decode [0x86]).toOption = some (.addM, []) ∧ (decode [0xBF]).toOption = some (.cmpA, []) ∧
  (decode [0x34]).toOption = some (.inrM, []) ∧ (decode [0x39]).toOption = some (.dadSP, []) ∧
  (decode [0xC2, 0x00, 0x02]).toOption = some (.jnz 0x0200, []) ∧ (decode [0xFC, 0x34, 0x12]).toOption = some (.cm 0x1234, []) ∧
  (decode [0xE8]).toOption = some (.rpe, []) ∧ (decode [0xD7]).toOption = some (.rst2, []) ∧
  (decode [0xF5]).toOption = some (.pushPSW, []) ∧ (decode [0xE1]).toOption = some (.popH, []) ∧
  (decode [0xDB, 0x03]).toOption = some (.inp 3, []) ∧ (decode [0xD3, 0x04]).toOption = some (.out 4, []) ∧
  (decode [0x08]).toOption = some (.illegal08h, [])

/-- The fields ddd, sss, rp, alu, ccc and nnn of the opcode byte select the instruction of each pattern (R106, R107,
R108, R109). That 0xCB, 0xDD, 0xED and 0xFD decode with a 16-bit operand under every policy is the model's choice,
log entry 9 (DEDUCED); the map of R107 shows them illegal (R109) with no operand, and R250 fetches none when they
fault. -/
def Obligations.OpcodeFieldsSelectFamilies : Prop :=
  ∀ (dst r : RegCode) (p : Pair) (q : StackPair) (k : AccPair) (cc : Cond) (n : Fin 8) (b1 b2 : Byte),
    decodeBytes (0b01#2 ++ dst.bits ++ r.bits) b1 b2 = Instr.mov dst r ∧
    decodeBytes (0b10#2 ++ 0b000#3 ++ r.bits) b1 b2 = Instr.add r ∧
    decodeBytes (0b10#2 ++ 0b001#3 ++ r.bits) b1 b2 = Instr.adc r ∧
    decodeBytes (0b10#2 ++ 0b010#3 ++ r.bits) b1 b2 = Instr.sub r ∧
    decodeBytes (0b10#2 ++ 0b011#3 ++ r.bits) b1 b2 = Instr.sbb r ∧
    decodeBytes (0b10#2 ++ 0b100#3 ++ r.bits) b1 b2 = Instr.ana r ∧
    decodeBytes (0b10#2 ++ 0b101#3 ++ r.bits) b1 b2 = Instr.xra r ∧
    decodeBytes (0b10#2 ++ 0b110#3 ++ r.bits) b1 b2 = Instr.ora r ∧
    decodeBytes (0b10#2 ++ 0b111#3 ++ r.bits) b1 b2 = Instr.cmp r ∧
    decodeBytes (0b11#2 ++ 0b000#3 ++ 0b110#3) b1 b2 = .adi b1 ∧
    decodeBytes (0b11#2 ++ 0b001#3 ++ 0b110#3) b1 b2 = .aci b1 ∧
    decodeBytes (0b11#2 ++ 0b010#3 ++ 0b110#3) b1 b2 = .sui b1 ∧
    decodeBytes (0b11#2 ++ 0b011#3 ++ 0b110#3) b1 b2 = .sbi b1 ∧
    decodeBytes (0b11#2 ++ 0b100#3 ++ 0b110#3) b1 b2 = .ani b1 ∧
    decodeBytes (0b11#2 ++ 0b101#3 ++ 0b110#3) b1 b2 = .xri b1 ∧
    decodeBytes (0b11#2 ++ 0b110#3 ++ 0b110#3) b1 b2 = .ori b1 ∧
    decodeBytes (0b11#2 ++ 0b111#3 ++ 0b110#3) b1 b2 = .cpi b1 ∧
    decodeBytes (0b00#2 ++ p.bits ++ 0b0001#4) b1 b2 = Instr.lxi p (b2 ++ b1) ∧
    decodeBytes (0b000#3 ++ k.bit ++ 0b0010#4) b1 b2 = Instr.stax k ∧
    decodeBytes (0b00#2 ++ p.bits ++ 0b0011#4) b1 b2 = Instr.inx p ∧
    decodeBytes (0b00#2 ++ dst.bits ++ 0b100#3) b1 b2 = Instr.inr dst ∧
    decodeBytes (0b00#2 ++ dst.bits ++ 0b101#3) b1 b2 = Instr.dcr dst ∧
    decodeBytes (0b00#2 ++ dst.bits ++ 0b110#3) b1 b2 = Instr.mvi dst b1 ∧
    decodeBytes (0b00#2 ++ p.bits ++ 0b1001#4) b1 b2 = Instr.dad p ∧
    decodeBytes (0b000#3 ++ k.bit ++ 0b1010#4) b1 b2 = Instr.ldax k ∧
    decodeBytes (0b00#2 ++ p.bits ++ 0b1011#4) b1 b2 = Instr.dcx p ∧
    decodeBytes (0b11#2 ++ cc.bits ++ 0b000#3) b1 b2 = Instr.rcc cc ∧
    decodeBytes (0b11#2 ++ q.bits ++ 0b0001#4) b1 b2 = Instr.pop q ∧
    decodeBytes (0b11#2 ++ cc.bits ++ 0b010#3) b1 b2 = Instr.jcc cc (b2 ++ b1) ∧
    decodeBytes (0b11#2 ++ cc.bits ++ 0b100#3) b1 b2 = Instr.ccc cc (b2 ++ b1) ∧
    decodeBytes (0b11#2 ++ q.bits ++ 0b0101#4) b1 b2 = Instr.push q ∧
    decodeBytes (0b11#2 ++ BitVec.ofNat 3 n.val ++ 0b111#3) b1 b2 = Instr.rst n ∧
    decodeBytes 0x22 b1 b2 = .shld (b2 ++ b1) ∧ decodeBytes 0x2A b1 b2 = .lhld (b2 ++ b1) ∧
    decodeBytes 0x32 b1 b2 = .sta (b2 ++ b1) ∧ decodeBytes 0x3A b1 b2 = .lda (b2 ++ b1) ∧
    decodeBytes 0x07 b1 b2 = .rlc ∧ decodeBytes 0x0F b1 b2 = .rrc ∧
    decodeBytes 0x17 b1 b2 = .ral ∧ decodeBytes 0x1F b1 b2 = .rar ∧
    decodeBytes 0x27 b1 b2 = .daa ∧ decodeBytes 0x2F b1 b2 = .cma ∧
    decodeBytes 0x37 b1 b2 = .stc ∧ decodeBytes 0x3F b1 b2 = .cmc ∧
    decodeBytes 0x00 b1 b2 = .nop ∧ decodeBytes 0x76 b1 b2 = .hlt ∧
    decodeBytes 0xC3 b1 b2 = .jmp (b2 ++ b1) ∧ decodeBytes 0xC9 b1 b2 = .ret ∧
    decodeBytes 0xCD b1 b2 = .call (b2 ++ b1) ∧ decodeBytes 0xD3 b1 b2 = .out b1 ∧
    decodeBytes 0xDB b1 b2 = .inp b1 ∧ decodeBytes 0xE3 b1 b2 = .xthl ∧
    decodeBytes 0xE9 b1 b2 = .pchl ∧ decodeBytes 0xEB b1 b2 = .xchg ∧
    decodeBytes 0xF3 b1 b2 = .di ∧ decodeBytes 0xF9 b1 b2 = .sphl ∧
    decodeBytes 0xFB b1 b2 = .ei ∧ decodeBytes 0x08 b1 b2 = .illegal08h ∧
    decodeBytes 0x10 b1 b2 = .illegal10h ∧ decodeBytes 0x18 b1 b2 = .illegal18h ∧
    decodeBytes 0x20 b1 b2 = .illegal20h ∧ decodeBytes 0x28 b1 b2 = .illegal28h ∧
    decodeBytes 0x30 b1 b2 = .illegal30h ∧ decodeBytes 0x38 b1 b2 = .illegal38h ∧
    decodeBytes 0xCB b1 b2 = .illegalCBh (b2 ++ b1) ∧ decodeBytes 0xD9 b1 b2 = .illegalD9h ∧
    decodeBytes 0xDD b1 b2 = .illegalDDh (b2 ++ b1) ∧ decodeBytes 0xED b1 b2 = .illegalEDh (b2 ++ b1) ∧
    decodeBytes 0xFD b1 b2 = .illegalFDh (b2 ++ b1)

/-- A byte stored to RAM is read at every mirror and changes no other byte; a store to ROM changes nothing (R53, R54). -/
def Obligations.ByteStoreReadBackThroughMirrors : Prop :=
  ∀ (s : State) (a x : Word) (v : Byte),
    (isRom a ↔ (a &&& 0x3FFF).toNat ≤ 0x1FFF) ∧
    (x &&& 0x3FFF = a &&& 0x3FFF → ¬ isRom a → (s.memWrite a v).memRead x = v) ∧
    (x &&& 0x3FFF ≠ a &&& 0x3FFF → (s.memWrite a v).memRead x = s.memRead x) ∧
    (isRom a → s.memWrite a v = s)

/-- A 16-bit access is two byte accesses, low byte first, the second at (a + 1) mod 65536 (R55). -/
def Obligations.WordAccessIsLittleEndian : Prop :=
  ∀ (s : State) (a v : Word),
    (s.memRead2 a).toNat = (s.memRead a).toNat + 256 * (s.memRead (a + 1)).toNat ∧
    StoresWord s (s.memWrite2 a v) a v ∧ StoreFrame 0 s (s.memWrite2 a v) ∧
    (¬ isRom a → ¬ isRom (a + 1) → (s.memWrite2 a v).memRead2 a = v)

/-- At power-on PC, IE, halted, the shift register, the counter, the phase and RAM have the spec's values; the
registers are free (R36, R37, R38, R39, R40, R41). -/
def Obligations.PowerOnState : Prop :=
  ∀ (p : Params) (draw : PowerOnDraw) (first : Snapshot),
    let s := State.powerOn p draw first
    s.pc = 0x0000 ∧ s.ie = false ∧ s.halted = false ∧ s.shv = 0x0000 ∧ s.sha = 0 ∧ s.cyc = 0 ∧ s.phase = .preMid ∧
    s.status = .running ∧ s.input = first ∧ s.params = p ∧ (∀ x : Word, ¬ isRom x → s.memRead x = 0x00) ∧
    s.a = draw.a ∧ s.b = draw.b ∧ s.c = draw.c ∧ s.d = draw.d ∧ s.e = draw.e ∧ s.h = draw.h ∧ s.l = draw.l ∧
    s.sp = draw.sp ∧ s.flags = draw.flags

/-- A ROM of four 2048-byte parts is placed from 0x0000; any other image is ROMLoadMismatch and no step runs (R282). -/
def Obligations.RomLoadIsChecked : Prop :=
  ∀ (s : State) (parts : List (List Byte)),
    (parts.map List.length = [2048, 2048, 2048, 2048] →
      s.loadRom parts = { s with mem := (s.loadRom parts).mem } ∧
      (∀ k : Nat, k < 8192 → (s.loadRom parts).memRead (BitVec.ofNat 16 k) = parts.flatten.getD k 0) ∧
      (∀ x : Word, ¬ isRom x → (s.loadRom parts).memRead x = s.memRead x)) ∧
    (parts.map List.length ≠ [2048, 2048, 2048, 2048] →
      (s.loadRom parts).status = .faulted .romLoadMismatch 0x0000 0x00 ∧ FaultCode.romLoadMismatch.number = 2 ∧
      ∀ t, step (s.loadRom parts) ≠ .next t)

/-- Every step keeps the memory's canonical form, the threshold constraint and the timing bounds (R31, R254, R255,
R261, 20_memory.md). -/
def Obligations.StepKeepsInvariant : Prop :=
  ∀ s t : State, s.Inv → step s = .next t → t.Inv

/-- The reset state meets the invariant (R36, R39, R41, 10_state.md). -/
def Obligations.ResetMeetsInvariant : Prop :=
  State.reset.Inv

/-- The ROM image is placed at 0x0000 to 0x1FFF in four parts, and no step from any state changes what a ROM address
reads (R281). -/
def Obligations.RomIsLoadedAndNeverChanges : Prop :=
  (∀ (s : State) (parts : List (List Byte)) (k : Nat), parts.map List.length = [2048, 2048, 2048, 2048] → k < 8192 →
    (s.loadRom parts).memRead (BitVec.ofNat 16 k) = parts.flatten.getD k 0) ∧
  (∀ (s t : State) (x : Word), isRom x → step s = .next t → t.memRead x = s.memRead x)

/-- IE rises only by EI and falls only by DI or an interrupt delivery; no instruction reads it (R28, R256, R257). -/
def Obligations.InterruptEnableChangesOnlyAsStated : Prop :=
  (∀ s t : State, step s = .next t →
    (s.ie = false → t.ie = true → s.halted = false ∧ fetch s = .ei) ∧
    (s.ie = true → t.ie = false → (s.halted = false ∧ fetch s = .di) ∨
      (t.halted = false ∧ ((t.pc = 0x0008 ∧ t.phase = .preEnd) ∨ (t.pc = 0x0010 ∧ t.phase = .preMid))))) ∧
  (∀ (i : Instr) (s : State) (v : Bool), i ≠ .ei → i ≠ .di →
    exec i { s with ie := v } =
      match exec i s with
      | .next t => .next { t with ie := v }
      | .fault r => .fault r
      | .refused r => .refused r)

/-- Only HLT halts the CPU, and only an interrupt delivery wakes it (R29, R262). -/
def Obligations.HaltEndsOnlyByDelivery : Prop :=
  ∀ s t : State, step s = .next t →
    (s.halted = false → t.halted = true → fetch s = .hlt) ∧
    (s.halted = true → t.halted = false → s.ie = true ∧ t.ie = false ∧ (t.pc = 0x0008 ∨ t.pc = 0x0010)) ∧
    (s.halted = true → (∀ r : RegCode, r ≠ .m → t.readCode r = s.readCode r) ∧ t.flags = s.flags ∧
      t.shv = s.shv ∧ t.sha = s.sha)

/-- Only OUT 4 changes shv and only OUT 2 changes sha; every IN changes nothing but A and PC, every other OUT nothing
but PC (R67). -/
def Obligations.ShiftRegisterChangesOnlyByOut : Prop :=
  (∀ s t : State, step s = .next t → (t.shv ≠ s.shv → fetch s = .out 4) ∧ (t.sha ≠ s.sha → fetch s = .out 2)) ∧
  (∀ (p : Byte) (s : State), (∃ v : Byte, exec (.inp p) s = .next { s with a := v, pc := s.pc + 2 }) ∧
    (p ≠ 2 → p ≠ 4 → exec (.out p) s = .next { s with pc := s.pc + 2 }))

/-- No step changes the parameters, and the input bytes change only where a frame ends (R268, R43). The queue of
snapshots is the model's own, log entry 6. -/
def Obligations.ParametersAndInputsAreFixed : Prop :=
  (∀ s t : State, step s = .next t →
    t.params = s.params ∧
    (¬ (s.phase = .preEnd ∧ t.phase = .preMid) → t.input = s.input ∧ t.upcoming = s.upcoming ∧
      ∀ p : Byte, p ≠ 3 → t.portIn p = s.portIn p) ∧
    (t.input = s.input ∨ s.upcoming.head? = some t.input)) ∧
  (∀ (s : State) (snap : Snapshot), s.beginFrame snap = { s with input := snap })

/-- No instruction reads or writes cyc or phase (R265, R31). -/
def Obligations.InstructionsIgnoreCycleCounter : Prop :=
  ∀ (i : Instr) (s : State) (n : Nat) (ph : Phase),
    exec i { s with cyc := n, phase := ph } =
      match exec i s with
      | .next t => .next { t with cyc := n, phase := ph }
      | .fault r => .fault r
      | .refused r => .refused r

/-- Every documented instruction completes from every state; the only fault a step can raise is UnimplementedOpcode
(R252). -/
def Obligations.DocumentedInstructionsNeverFault : Prop :=
  (∀ (i : Instr) (s : State), i.documented = true → ∃ t, exec i s = .next t ∧ t.status = s.status) ∧
  (∀ s : State, s.status = .running → ∃ t, step s = .next t ∧
    (t.status = .running ∨ (s.halted = false ∧ (fetch s).documented = false ∧ s.params.undoc = .fault ∧
      ∃ op : Byte, t.status = .faulted .unimplementedOpcode s.pc op)))

/-- A step runs just while Running; one halted with IE = 0 changes cyc and phase, and where a frame ends takes the next
inputs and draws the same picture (R290, R251, R262, R263, R268). The picture is drawn where a frame ends, and it
is the same picture every frame. That a faulted session has no step is the model's choice, log entry 7 (R251 leaves
it free); that the input bytes are replaced from a queue where a frame ends is log entry 6. -/
def Obligations.HaltedWithInterruptsDisabledIsQuiescent : Prop :=
  (∀ s : State, (∃ t, step s = .next t) ↔ s.status = .running) ∧
  (∀ s : State, s.status = .running → s.halted = true → s.ie = false →
    ∃ t, step s = .next t ∧
      t = { s with cyc := t.cyc, phase := t.phase, framebuffer := t.framebuffer, input := t.input,
                   upcoming := t.upcoming } ∧
      (¬ (s.phase = .preEnd ∧ t.phase = .preMid) →
        t.framebuffer = s.framebuffer ∧ t.input = s.input ∧ t.upcoming = s.upcoming) ∧
      (s.phase = .preEnd ∧ t.phase = .preMid →
        t.framebuffer = some (rasterize s) ∧ t.input = s.upcoming.headD s.input ∧ t.upcoming = s.upcoming.tail) ∧
      rasterize t = rasterize s)

/-- Every call of run_frame ends: within T_MID + T_END + 2 steps the frame is over or the session has faulted (R263,
R262, R255). The fuel is the model's own, log entry 10. -/
def Obligations.EveryFrameEndsOrFaults : Prop :=
  ∀ (fuel : Nat) (snap : Snapshot) (s : State), s.status = .running → s.params.ok →
    1 ≤ s.params.jccNotTakenCycles → s.params.tMid + s.params.tEnd + 2 ≤ fuel →
    (∃ t, runFrame fuel snap s = .frame t) ∨ (∃ pc op t, runFrame fuel snap s = .faulted .unimplementedOpcode pc op t)

/-- A frame that ends leaves a running session at cyc = 0 in PreMid with the framebuffer the picture of video RAM
(R263, R264, R289). The fuel is the model's own, log entry 10; so is what a call on a faulted session answers, log
entry 16. -/
def Obligations.FrameHandsOutTheVideoPicture : Prop :=
  ∀ (fuel : Nat) (snap : Snapshot) (s : State),
    (∀ t, runFrame fuel snap s = .frame t →
      t.status = .running ∧ t.cyc = 0 ∧ t.phase = .preMid ∧ t.framebuffer = some (rasterize t)) ∧
    (∀ code pc op t, runFrame fuel snap s = .faulted code pc op t → t.status = .faulted code pc op)
end

