-- ==== Sys2Proof/Laws/Decode.lean ====
section
/-! SUPPORT. The decoder over a list of bytes and the fetch's decoder of three bytes are one decoder. -/

namespace Sys2Proof

/-- The list decoder answers on any three bytes, the instruction of the three-byte decoder. -/
theorem decode_three (op b1 b2 : Byte) :
    decode [op, b1, b2] = .ok (decodeBytes op b1 b2, [op, b1, b2].drop (formOf op).length) := by
  unfold decode decodeBytes
  dsimp only
  cases formOf op <;> rfl

/-- Where the list decoder answers, the three-byte decoder answers the same instruction. -/
theorem decodeBytes_of_decode {op b1 b2 : Byte} {i : Instr} {rest : List Byte}
    (h : decode [op, b1, b2] = .ok (i, rest)) : decodeBytes op b1 b2 = i := by
  rw [decode_three] at h
  exact congrArg Prod.fst (Except.ok.inj h)

/-- A decoded instruction's fetch. -/
theorem Machine.fetch_of_decode {s : Machine.State} {i : Instr} {rest : List Byte}
    (h : decode [s.memRead s.pc, s.memRead (s.pc + 1), s.memRead (s.pc + 2)] = .ok (i, rest)) :
    Machine.fetch s = i := decodeBytes_of_decode h

end Sys2Proof
end

