-- ==== Sys2Proof/Laws/State.lean ====
section
/-! SUPPORT. One lemma per field per named update of State, true by rfl (for the operand and pair writes, by the cases of
the code), so that no proof unfolds a record update. -/

namespace Sys2Proof.Machine

/-! ### setPc -/

@[simp] theorem State.setPc_b (s : State) (w : Word) : (s.setPc w).b = s.b := rfl
@[simp] theorem State.setPc_c (s : State) (w : Word) : (s.setPc w).c = s.c := rfl
@[simp] theorem State.setPc_d (s : State) (w : Word) : (s.setPc w).d = s.d := rfl
@[simp] theorem State.setPc_e (s : State) (w : Word) : (s.setPc w).e = s.e := rfl
@[simp] theorem State.setPc_h (s : State) (w : Word) : (s.setPc w).h = s.h := rfl
@[simp] theorem State.setPc_l (s : State) (w : Word) : (s.setPc w).l = s.l := rfl
@[simp] theorem State.setPc_a (s : State) (w : Word) : (s.setPc w).a = s.a := rfl
@[simp] theorem State.setPc_flags (s : State) (w : Word) : (s.setPc w).flags = s.flags := rfl
@[simp] theorem State.setPc_sp (s : State) (w : Word) : (s.setPc w).sp = s.sp := rfl
@[simp] theorem State.setPc_pc (s : State) (w : Word) : (s.setPc w).pc = w := rfl
@[simp] theorem State.setPc_ie (s : State) (w : Word) : (s.setPc w).ie = s.ie := rfl
@[simp] theorem State.setPc_halted (s : State) (w : Word) : (s.setPc w).halted = s.halted := rfl
@[simp] theorem State.setPc_shv (s : State) (w : Word) : (s.setPc w).shv = s.shv := rfl
@[simp] theorem State.setPc_sha (s : State) (w : Word) : (s.setPc w).sha = s.sha := rfl
@[simp] theorem State.setPc_cyc (s : State) (w : Word) : (s.setPc w).cyc = s.cyc := rfl
@[simp] theorem State.setPc_phase (s : State) (w : Word) : (s.setPc w).phase = s.phase := rfl
@[simp] theorem State.setPc_status (s : State) (w : Word) : (s.setPc w).status = s.status := rfl
@[simp] theorem State.setPc_input (s : State) (w : Word) : (s.setPc w).input = s.input := rfl
@[simp] theorem State.setPc_mem (s : State) (w : Word) : (s.setPc w).mem = s.mem := rfl
@[simp] theorem State.setPc_framebuffer (s : State) (w : Word) : (s.setPc w).framebuffer = s.framebuffer := rfl
@[simp] theorem State.setPc_upcoming (s : State) (w : Word) : (s.setPc w).upcoming = s.upcoming := rfl
@[simp] theorem State.setPc_params (s : State) (w : Word) : (s.setPc w).params = s.params := rfl

/-! ### advance -/

@[simp] theorem State.advance_b (s : State) (n : Nat) : (s.advance n).b = s.b := rfl
@[simp] theorem State.advance_c (s : State) (n : Nat) : (s.advance n).c = s.c := rfl
@[simp] theorem State.advance_d (s : State) (n : Nat) : (s.advance n).d = s.d := rfl
@[simp] theorem State.advance_e (s : State) (n : Nat) : (s.advance n).e = s.e := rfl
@[simp] theorem State.advance_h (s : State) (n : Nat) : (s.advance n).h = s.h := rfl
@[simp] theorem State.advance_l (s : State) (n : Nat) : (s.advance n).l = s.l := rfl
@[simp] theorem State.advance_a (s : State) (n : Nat) : (s.advance n).a = s.a := rfl
@[simp] theorem State.advance_flags (s : State) (n : Nat) : (s.advance n).flags = s.flags := rfl
@[simp] theorem State.advance_sp (s : State) (n : Nat) : (s.advance n).sp = s.sp := rfl
@[simp] theorem State.advance_pc (s : State) (n : Nat) : (s.advance n).pc = s.pc + BitVec.ofNat 16 n := rfl
@[simp] theorem State.advance_ie (s : State) (n : Nat) : (s.advance n).ie = s.ie := rfl
@[simp] theorem State.advance_halted (s : State) (n : Nat) : (s.advance n).halted = s.halted := rfl
@[simp] theorem State.advance_shv (s : State) (n : Nat) : (s.advance n).shv = s.shv := rfl
@[simp] theorem State.advance_sha (s : State) (n : Nat) : (s.advance n).sha = s.sha := rfl
@[simp] theorem State.advance_cyc (s : State) (n : Nat) : (s.advance n).cyc = s.cyc := rfl
@[simp] theorem State.advance_phase (s : State) (n : Nat) : (s.advance n).phase = s.phase := rfl
@[simp] theorem State.advance_status (s : State) (n : Nat) : (s.advance n).status = s.status := rfl
@[simp] theorem State.advance_input (s : State) (n : Nat) : (s.advance n).input = s.input := rfl
@[simp] theorem State.advance_mem (s : State) (n : Nat) : (s.advance n).mem = s.mem := rfl
@[simp] theorem State.advance_framebuffer (s : State) (n : Nat) : (s.advance n).framebuffer = s.framebuffer := rfl
@[simp] theorem State.advance_upcoming (s : State) (n : Nat) : (s.advance n).upcoming = s.upcoming := rfl
@[simp] theorem State.advance_params (s : State) (n : Nat) : (s.advance n).params = s.params := rfl

/-! ### setSp -/

@[simp] theorem State.setSp_b (s : State) (w : Word) : (s.setSp w).b = s.b := rfl
@[simp] theorem State.setSp_c (s : State) (w : Word) : (s.setSp w).c = s.c := rfl
@[simp] theorem State.setSp_d (s : State) (w : Word) : (s.setSp w).d = s.d := rfl
@[simp] theorem State.setSp_e (s : State) (w : Word) : (s.setSp w).e = s.e := rfl
@[simp] theorem State.setSp_h (s : State) (w : Word) : (s.setSp w).h = s.h := rfl
@[simp] theorem State.setSp_l (s : State) (w : Word) : (s.setSp w).l = s.l := rfl
@[simp] theorem State.setSp_a (s : State) (w : Word) : (s.setSp w).a = s.a := rfl
@[simp] theorem State.setSp_flags (s : State) (w : Word) : (s.setSp w).flags = s.flags := rfl
@[simp] theorem State.setSp_sp (s : State) (w : Word) : (s.setSp w).sp = w := rfl
@[simp] theorem State.setSp_pc (s : State) (w : Word) : (s.setSp w).pc = s.pc := rfl
@[simp] theorem State.setSp_ie (s : State) (w : Word) : (s.setSp w).ie = s.ie := rfl
@[simp] theorem State.setSp_halted (s : State) (w : Word) : (s.setSp w).halted = s.halted := rfl
@[simp] theorem State.setSp_shv (s : State) (w : Word) : (s.setSp w).shv = s.shv := rfl
@[simp] theorem State.setSp_sha (s : State) (w : Word) : (s.setSp w).sha = s.sha := rfl
@[simp] theorem State.setSp_cyc (s : State) (w : Word) : (s.setSp w).cyc = s.cyc := rfl
@[simp] theorem State.setSp_phase (s : State) (w : Word) : (s.setSp w).phase = s.phase := rfl
@[simp] theorem State.setSp_status (s : State) (w : Word) : (s.setSp w).status = s.status := rfl
@[simp] theorem State.setSp_input (s : State) (w : Word) : (s.setSp w).input = s.input := rfl
@[simp] theorem State.setSp_mem (s : State) (w : Word) : (s.setSp w).mem = s.mem := rfl
@[simp] theorem State.setSp_framebuffer (s : State) (w : Word) : (s.setSp w).framebuffer = s.framebuffer := rfl
@[simp] theorem State.setSp_upcoming (s : State) (w : Word) : (s.setSp w).upcoming = s.upcoming := rfl
@[simp] theorem State.setSp_params (s : State) (w : Word) : (s.setSp w).params = s.params := rfl

/-! ### setA -/

@[simp] theorem State.setA_b (s : State) (v : Byte) : (s.setA v).b = s.b := rfl
@[simp] theorem State.setA_c (s : State) (v : Byte) : (s.setA v).c = s.c := rfl
@[simp] theorem State.setA_d (s : State) (v : Byte) : (s.setA v).d = s.d := rfl
@[simp] theorem State.setA_e (s : State) (v : Byte) : (s.setA v).e = s.e := rfl
@[simp] theorem State.setA_h (s : State) (v : Byte) : (s.setA v).h = s.h := rfl
@[simp] theorem State.setA_l (s : State) (v : Byte) : (s.setA v).l = s.l := rfl
@[simp] theorem State.setA_a (s : State) (v : Byte) : (s.setA v).a = v := rfl
@[simp] theorem State.setA_flags (s : State) (v : Byte) : (s.setA v).flags = s.flags := rfl
@[simp] theorem State.setA_sp (s : State) (v : Byte) : (s.setA v).sp = s.sp := rfl
@[simp] theorem State.setA_pc (s : State) (v : Byte) : (s.setA v).pc = s.pc := rfl
@[simp] theorem State.setA_ie (s : State) (v : Byte) : (s.setA v).ie = s.ie := rfl
@[simp] theorem State.setA_halted (s : State) (v : Byte) : (s.setA v).halted = s.halted := rfl
@[simp] theorem State.setA_shv (s : State) (v : Byte) : (s.setA v).shv = s.shv := rfl
@[simp] theorem State.setA_sha (s : State) (v : Byte) : (s.setA v).sha = s.sha := rfl
@[simp] theorem State.setA_cyc (s : State) (v : Byte) : (s.setA v).cyc = s.cyc := rfl
@[simp] theorem State.setA_phase (s : State) (v : Byte) : (s.setA v).phase = s.phase := rfl
@[simp] theorem State.setA_status (s : State) (v : Byte) : (s.setA v).status = s.status := rfl
@[simp] theorem State.setA_input (s : State) (v : Byte) : (s.setA v).input = s.input := rfl
@[simp] theorem State.setA_mem (s : State) (v : Byte) : (s.setA v).mem = s.mem := rfl
@[simp] theorem State.setA_framebuffer (s : State) (v : Byte) : (s.setA v).framebuffer = s.framebuffer := rfl
@[simp] theorem State.setA_upcoming (s : State) (v : Byte) : (s.setA v).upcoming = s.upcoming := rfl
@[simp] theorem State.setA_params (s : State) (v : Byte) : (s.setA v).params = s.params := rfl

/-! ### setFlags -/

@[simp] theorem State.setFlags_b (s : State) (f : Flags) : (s.setFlags f).b = s.b := rfl
@[simp] theorem State.setFlags_c (s : State) (f : Flags) : (s.setFlags f).c = s.c := rfl
@[simp] theorem State.setFlags_d (s : State) (f : Flags) : (s.setFlags f).d = s.d := rfl
@[simp] theorem State.setFlags_e (s : State) (f : Flags) : (s.setFlags f).e = s.e := rfl
@[simp] theorem State.setFlags_h (s : State) (f : Flags) : (s.setFlags f).h = s.h := rfl
@[simp] theorem State.setFlags_l (s : State) (f : Flags) : (s.setFlags f).l = s.l := rfl
@[simp] theorem State.setFlags_a (s : State) (f : Flags) : (s.setFlags f).a = s.a := rfl
@[simp] theorem State.setFlags_flags (s : State) (f : Flags) : (s.setFlags f).flags = f := rfl
@[simp] theorem State.setFlags_sp (s : State) (f : Flags) : (s.setFlags f).sp = s.sp := rfl
@[simp] theorem State.setFlags_pc (s : State) (f : Flags) : (s.setFlags f).pc = s.pc := rfl
@[simp] theorem State.setFlags_ie (s : State) (f : Flags) : (s.setFlags f).ie = s.ie := rfl
@[simp] theorem State.setFlags_halted (s : State) (f : Flags) : (s.setFlags f).halted = s.halted := rfl
@[simp] theorem State.setFlags_shv (s : State) (f : Flags) : (s.setFlags f).shv = s.shv := rfl
@[simp] theorem State.setFlags_sha (s : State) (f : Flags) : (s.setFlags f).sha = s.sha := rfl
@[simp] theorem State.setFlags_cyc (s : State) (f : Flags) : (s.setFlags f).cyc = s.cyc := rfl
@[simp] theorem State.setFlags_phase (s : State) (f : Flags) : (s.setFlags f).phase = s.phase := rfl
@[simp] theorem State.setFlags_status (s : State) (f : Flags) : (s.setFlags f).status = s.status := rfl
@[simp] theorem State.setFlags_input (s : State) (f : Flags) : (s.setFlags f).input = s.input := rfl
@[simp] theorem State.setFlags_mem (s : State) (f : Flags) : (s.setFlags f).mem = s.mem := rfl
@[simp] theorem State.setFlags_framebuffer (s : State) (f : Flags) : (s.setFlags f).framebuffer = s.framebuffer := rfl
@[simp] theorem State.setFlags_upcoming (s : State) (f : Flags) : (s.setFlags f).upcoming = s.upcoming := rfl
@[simp] theorem State.setFlags_params (s : State) (f : Flags) : (s.setFlags f).params = s.params := rfl

/-! ### setAF -/

@[simp] theorem State.setAF_b (s : State) (r : Byte × Flags) : (s.setAF r).b = s.b := rfl
@[simp] theorem State.setAF_c (s : State) (r : Byte × Flags) : (s.setAF r).c = s.c := rfl
@[simp] theorem State.setAF_d (s : State) (r : Byte × Flags) : (s.setAF r).d = s.d := rfl
@[simp] theorem State.setAF_e (s : State) (r : Byte × Flags) : (s.setAF r).e = s.e := rfl
@[simp] theorem State.setAF_h (s : State) (r : Byte × Flags) : (s.setAF r).h = s.h := rfl
@[simp] theorem State.setAF_l (s : State) (r : Byte × Flags) : (s.setAF r).l = s.l := rfl
@[simp] theorem State.setAF_a (s : State) (r : Byte × Flags) : (s.setAF r).a = r.1 := rfl
@[simp] theorem State.setAF_flags (s : State) (r : Byte × Flags) : (s.setAF r).flags = r.2 := rfl
@[simp] theorem State.setAF_sp (s : State) (r : Byte × Flags) : (s.setAF r).sp = s.sp := rfl
@[simp] theorem State.setAF_pc (s : State) (r : Byte × Flags) : (s.setAF r).pc = s.pc := rfl
@[simp] theorem State.setAF_ie (s : State) (r : Byte × Flags) : (s.setAF r).ie = s.ie := rfl
@[simp] theorem State.setAF_halted (s : State) (r : Byte × Flags) : (s.setAF r).halted = s.halted := rfl
@[simp] theorem State.setAF_shv (s : State) (r : Byte × Flags) : (s.setAF r).shv = s.shv := rfl
@[simp] theorem State.setAF_sha (s : State) (r : Byte × Flags) : (s.setAF r).sha = s.sha := rfl
@[simp] theorem State.setAF_cyc (s : State) (r : Byte × Flags) : (s.setAF r).cyc = s.cyc := rfl
@[simp] theorem State.setAF_phase (s : State) (r : Byte × Flags) : (s.setAF r).phase = s.phase := rfl
@[simp] theorem State.setAF_status (s : State) (r : Byte × Flags) : (s.setAF r).status = s.status := rfl
@[simp] theorem State.setAF_input (s : State) (r : Byte × Flags) : (s.setAF r).input = s.input := rfl
@[simp] theorem State.setAF_mem (s : State) (r : Byte × Flags) : (s.setAF r).mem = s.mem := rfl
@[simp] theorem State.setAF_framebuffer (s : State) (r : Byte × Flags) : (s.setAF r).framebuffer = s.framebuffer := rfl
@[simp] theorem State.setAF_upcoming (s : State) (r : Byte × Flags) : (s.setAF r).upcoming = s.upcoming := rfl
@[simp] theorem State.setAF_params (s : State) (r : Byte × Flags) : (s.setAF r).params = s.params := rfl

/-! ### addCycles -/

@[simp] theorem State.addCycles_b (s : State) (n : Nat) : (s.addCycles n).b = s.b := rfl
@[simp] theorem State.addCycles_c (s : State) (n : Nat) : (s.addCycles n).c = s.c := rfl
@[simp] theorem State.addCycles_d (s : State) (n : Nat) : (s.addCycles n).d = s.d := rfl
@[simp] theorem State.addCycles_e (s : State) (n : Nat) : (s.addCycles n).e = s.e := rfl
@[simp] theorem State.addCycles_h (s : State) (n : Nat) : (s.addCycles n).h = s.h := rfl
@[simp] theorem State.addCycles_l (s : State) (n : Nat) : (s.addCycles n).l = s.l := rfl
@[simp] theorem State.addCycles_a (s : State) (n : Nat) : (s.addCycles n).a = s.a := rfl
@[simp] theorem State.addCycles_flags (s : State) (n : Nat) : (s.addCycles n).flags = s.flags := rfl
@[simp] theorem State.addCycles_sp (s : State) (n : Nat) : (s.addCycles n).sp = s.sp := rfl
@[simp] theorem State.addCycles_pc (s : State) (n : Nat) : (s.addCycles n).pc = s.pc := rfl
@[simp] theorem State.addCycles_ie (s : State) (n : Nat) : (s.addCycles n).ie = s.ie := rfl
@[simp] theorem State.addCycles_halted (s : State) (n : Nat) : (s.addCycles n).halted = s.halted := rfl
@[simp] theorem State.addCycles_shv (s : State) (n : Nat) : (s.addCycles n).shv = s.shv := rfl
@[simp] theorem State.addCycles_sha (s : State) (n : Nat) : (s.addCycles n).sha = s.sha := rfl
@[simp] theorem State.addCycles_cyc (s : State) (n : Nat) : (s.addCycles n).cyc = s.cyc + n := rfl
@[simp] theorem State.addCycles_phase (s : State) (n : Nat) : (s.addCycles n).phase = s.phase := rfl
@[simp] theorem State.addCycles_status (s : State) (n : Nat) : (s.addCycles n).status = s.status := rfl
@[simp] theorem State.addCycles_input (s : State) (n : Nat) : (s.addCycles n).input = s.input := rfl
@[simp] theorem State.addCycles_mem (s : State) (n : Nat) : (s.addCycles n).mem = s.mem := rfl
@[simp] theorem State.addCycles_framebuffer (s : State) (n : Nat) : (s.addCycles n).framebuffer = s.framebuffer := rfl
@[simp] theorem State.addCycles_upcoming (s : State) (n : Nat) : (s.addCycles n).upcoming = s.upcoming := rfl
@[simp] theorem State.addCycles_params (s : State) (n : Nat) : (s.addCycles n).params = s.params := rfl

/-! ### memWrite -/

@[simp] theorem State.memWrite_b (s : State) (x : Word) (v : Byte) : (s.memWrite x v).b = s.b := rfl
@[simp] theorem State.memWrite_c (s : State) (x : Word) (v : Byte) : (s.memWrite x v).c = s.c := rfl
@[simp] theorem State.memWrite_d (s : State) (x : Word) (v : Byte) : (s.memWrite x v).d = s.d := rfl
@[simp] theorem State.memWrite_e (s : State) (x : Word) (v : Byte) : (s.memWrite x v).e = s.e := rfl
@[simp] theorem State.memWrite_h (s : State) (x : Word) (v : Byte) : (s.memWrite x v).h = s.h := rfl
@[simp] theorem State.memWrite_l (s : State) (x : Word) (v : Byte) : (s.memWrite x v).l = s.l := rfl
@[simp] theorem State.memWrite_a (s : State) (x : Word) (v : Byte) : (s.memWrite x v).a = s.a := rfl
@[simp] theorem State.memWrite_flags (s : State) (x : Word) (v : Byte) : (s.memWrite x v).flags = s.flags := rfl
@[simp] theorem State.memWrite_sp (s : State) (x : Word) (v : Byte) : (s.memWrite x v).sp = s.sp := rfl
@[simp] theorem State.memWrite_pc (s : State) (x : Word) (v : Byte) : (s.memWrite x v).pc = s.pc := rfl
@[simp] theorem State.memWrite_ie (s : State) (x : Word) (v : Byte) : (s.memWrite x v).ie = s.ie := rfl
@[simp] theorem State.memWrite_halted (s : State) (x : Word) (v : Byte) : (s.memWrite x v).halted = s.halted := rfl
@[simp] theorem State.memWrite_shv (s : State) (x : Word) (v : Byte) : (s.memWrite x v).shv = s.shv := rfl
@[simp] theorem State.memWrite_sha (s : State) (x : Word) (v : Byte) : (s.memWrite x v).sha = s.sha := rfl
@[simp] theorem State.memWrite_cyc (s : State) (x : Word) (v : Byte) : (s.memWrite x v).cyc = s.cyc := rfl
@[simp] theorem State.memWrite_phase (s : State) (x : Word) (v : Byte) : (s.memWrite x v).phase = s.phase := rfl
@[simp] theorem State.memWrite_status (s : State) (x : Word) (v : Byte) : (s.memWrite x v).status = s.status := rfl
@[simp] theorem State.memWrite_input (s : State) (x : Word) (v : Byte) : (s.memWrite x v).input = s.input := rfl
@[simp] theorem State.memWrite_mem (s : State) (x : Word) (v : Byte) : (s.memWrite x v).mem = busWrite s.mem x v := rfl
@[simp] theorem State.memWrite_framebuffer (s : State) (x : Word) (v : Byte) : (s.memWrite x v).framebuffer = s.framebuffer := rfl
@[simp] theorem State.memWrite_upcoming (s : State) (x : Word) (v : Byte) : (s.memWrite x v).upcoming = s.upcoming := rfl
@[simp] theorem State.memWrite_params (s : State) (x : Word) (v : Byte) : (s.memWrite x v).params = s.params := rfl

/-! ### setAmount -/

@[simp] theorem State.setAmount_b (s : State) (v : Byte) : (s.setAmount v).b = s.b := rfl
@[simp] theorem State.setAmount_c (s : State) (v : Byte) : (s.setAmount v).c = s.c := rfl
@[simp] theorem State.setAmount_d (s : State) (v : Byte) : (s.setAmount v).d = s.d := rfl
@[simp] theorem State.setAmount_e (s : State) (v : Byte) : (s.setAmount v).e = s.e := rfl
@[simp] theorem State.setAmount_h (s : State) (v : Byte) : (s.setAmount v).h = s.h := rfl
@[simp] theorem State.setAmount_l (s : State) (v : Byte) : (s.setAmount v).l = s.l := rfl
@[simp] theorem State.setAmount_a (s : State) (v : Byte) : (s.setAmount v).a = s.a := rfl
@[simp] theorem State.setAmount_flags (s : State) (v : Byte) : (s.setAmount v).flags = s.flags := rfl
@[simp] theorem State.setAmount_sp (s : State) (v : Byte) : (s.setAmount v).sp = s.sp := rfl
@[simp] theorem State.setAmount_pc (s : State) (v : Byte) : (s.setAmount v).pc = s.pc := rfl
@[simp] theorem State.setAmount_ie (s : State) (v : Byte) : (s.setAmount v).ie = s.ie := rfl
@[simp] theorem State.setAmount_halted (s : State) (v : Byte) : (s.setAmount v).halted = s.halted := rfl
@[simp] theorem State.setAmount_shv (s : State) (v : Byte) : (s.setAmount v).shv = s.shv := rfl
@[simp] theorem State.setAmount_sha (s : State) (v : Byte) : (s.setAmount v).sha = v.setWidth 3 := rfl
@[simp] theorem State.setAmount_cyc (s : State) (v : Byte) : (s.setAmount v).cyc = s.cyc := rfl
@[simp] theorem State.setAmount_phase (s : State) (v : Byte) : (s.setAmount v).phase = s.phase := rfl
@[simp] theorem State.setAmount_status (s : State) (v : Byte) : (s.setAmount v).status = s.status := rfl
@[simp] theorem State.setAmount_input (s : State) (v : Byte) : (s.setAmount v).input = s.input := rfl
@[simp] theorem State.setAmount_mem (s : State) (v : Byte) : (s.setAmount v).mem = s.mem := rfl
@[simp] theorem State.setAmount_framebuffer (s : State) (v : Byte) : (s.setAmount v).framebuffer = s.framebuffer := rfl
@[simp] theorem State.setAmount_upcoming (s : State) (v : Byte) : (s.setAmount v).upcoming = s.upcoming := rfl
@[simp] theorem State.setAmount_params (s : State) (v : Byte) : (s.setAmount v).params = s.params := rfl

/-! ### shiftIn -/

@[simp] theorem State.shiftIn_b (s : State) (v : Byte) : (s.shiftIn v).b = s.b := rfl
@[simp] theorem State.shiftIn_c (s : State) (v : Byte) : (s.shiftIn v).c = s.c := rfl
@[simp] theorem State.shiftIn_d (s : State) (v : Byte) : (s.shiftIn v).d = s.d := rfl
@[simp] theorem State.shiftIn_e (s : State) (v : Byte) : (s.shiftIn v).e = s.e := rfl
@[simp] theorem State.shiftIn_h (s : State) (v : Byte) : (s.shiftIn v).h = s.h := rfl
@[simp] theorem State.shiftIn_l (s : State) (v : Byte) : (s.shiftIn v).l = s.l := rfl
@[simp] theorem State.shiftIn_a (s : State) (v : Byte) : (s.shiftIn v).a = s.a := rfl
@[simp] theorem State.shiftIn_flags (s : State) (v : Byte) : (s.shiftIn v).flags = s.flags := rfl
@[simp] theorem State.shiftIn_sp (s : State) (v : Byte) : (s.shiftIn v).sp = s.sp := rfl
@[simp] theorem State.shiftIn_pc (s : State) (v : Byte) : (s.shiftIn v).pc = s.pc := rfl
@[simp] theorem State.shiftIn_ie (s : State) (v : Byte) : (s.shiftIn v).ie = s.ie := rfl
@[simp] theorem State.shiftIn_halted (s : State) (v : Byte) : (s.shiftIn v).halted = s.halted := rfl
@[simp] theorem State.shiftIn_shv (s : State) (v : Byte) : (s.shiftIn v).shv = ((v.setWidth 16 : Word) <<< 8) ||| (s.shv >>> 8) := rfl
@[simp] theorem State.shiftIn_sha (s : State) (v : Byte) : (s.shiftIn v).sha = s.sha := rfl
@[simp] theorem State.shiftIn_cyc (s : State) (v : Byte) : (s.shiftIn v).cyc = s.cyc := rfl
@[simp] theorem State.shiftIn_phase (s : State) (v : Byte) : (s.shiftIn v).phase = s.phase := rfl
@[simp] theorem State.shiftIn_status (s : State) (v : Byte) : (s.shiftIn v).status = s.status := rfl
@[simp] theorem State.shiftIn_input (s : State) (v : Byte) : (s.shiftIn v).input = s.input := rfl
@[simp] theorem State.shiftIn_mem (s : State) (v : Byte) : (s.shiftIn v).mem = s.mem := rfl
@[simp] theorem State.shiftIn_framebuffer (s : State) (v : Byte) : (s.shiftIn v).framebuffer = s.framebuffer := rfl
@[simp] theorem State.shiftIn_upcoming (s : State) (v : Byte) : (s.shiftIn v).upcoming = s.upcoming := rfl
@[simp] theorem State.shiftIn_params (s : State) (v : Byte) : (s.shiftIn v).params = s.params := rfl

/-! ### dropTop -/

@[simp] theorem State.dropTop_b (s : State) : (s.dropTop).b = s.b := rfl
@[simp] theorem State.dropTop_c (s : State) : (s.dropTop).c = s.c := rfl
@[simp] theorem State.dropTop_d (s : State) : (s.dropTop).d = s.d := rfl
@[simp] theorem State.dropTop_e (s : State) : (s.dropTop).e = s.e := rfl
@[simp] theorem State.dropTop_h (s : State) : (s.dropTop).h = s.h := rfl
@[simp] theorem State.dropTop_l (s : State) : (s.dropTop).l = s.l := rfl
@[simp] theorem State.dropTop_a (s : State) : (s.dropTop).a = s.a := rfl
@[simp] theorem State.dropTop_flags (s : State) : (s.dropTop).flags = s.flags := rfl
@[simp] theorem State.dropTop_sp (s : State) : (s.dropTop).sp = s.sp + 1 + 1 := rfl
@[simp] theorem State.dropTop_pc (s : State) : (s.dropTop).pc = s.pc := rfl
@[simp] theorem State.dropTop_ie (s : State) : (s.dropTop).ie = s.ie := rfl
@[simp] theorem State.dropTop_halted (s : State) : (s.dropTop).halted = s.halted := rfl
@[simp] theorem State.dropTop_shv (s : State) : (s.dropTop).shv = s.shv := rfl
@[simp] theorem State.dropTop_sha (s : State) : (s.dropTop).sha = s.sha := rfl
@[simp] theorem State.dropTop_cyc (s : State) : (s.dropTop).cyc = s.cyc := rfl
@[simp] theorem State.dropTop_phase (s : State) : (s.dropTop).phase = s.phase := rfl
@[simp] theorem State.dropTop_status (s : State) : (s.dropTop).status = s.status := rfl
@[simp] theorem State.dropTop_input (s : State) : (s.dropTop).input = s.input := rfl
@[simp] theorem State.dropTop_mem (s : State) : (s.dropTop).mem = s.mem := rfl
@[simp] theorem State.dropTop_framebuffer (s : State) : (s.dropTop).framebuffer = s.framebuffer := rfl
@[simp] theorem State.dropTop_upcoming (s : State) : (s.dropTop).upcoming = s.upcoming := rfl
@[simp] theorem State.dropTop_params (s : State) : (s.dropTop).params = s.params := rfl

/-! ### push16 -/

@[simp] theorem State.push16_b (s : State) (v : Word) : (s.push16 v).b = s.b := rfl
@[simp] theorem State.push16_c (s : State) (v : Word) : (s.push16 v).c = s.c := rfl
@[simp] theorem State.push16_d (s : State) (v : Word) : (s.push16 v).d = s.d := rfl
@[simp] theorem State.push16_e (s : State) (v : Word) : (s.push16 v).e = s.e := rfl
@[simp] theorem State.push16_h (s : State) (v : Word) : (s.push16 v).h = s.h := rfl
@[simp] theorem State.push16_l (s : State) (v : Word) : (s.push16 v).l = s.l := rfl
@[simp] theorem State.push16_a (s : State) (v : Word) : (s.push16 v).a = s.a := rfl
@[simp] theorem State.push16_flags (s : State) (v : Word) : (s.push16 v).flags = s.flags := rfl
@[simp] theorem State.push16_pc (s : State) (v : Word) : (s.push16 v).pc = s.pc := rfl
@[simp] theorem State.push16_ie (s : State) (v : Word) : (s.push16 v).ie = s.ie := rfl
@[simp] theorem State.push16_halted (s : State) (v : Word) : (s.push16 v).halted = s.halted := rfl
@[simp] theorem State.push16_shv (s : State) (v : Word) : (s.push16 v).shv = s.shv := rfl
@[simp] theorem State.push16_sha (s : State) (v : Word) : (s.push16 v).sha = s.sha := rfl
@[simp] theorem State.push16_cyc (s : State) (v : Word) : (s.push16 v).cyc = s.cyc := rfl
@[simp] theorem State.push16_phase (s : State) (v : Word) : (s.push16 v).phase = s.phase := rfl
@[simp] theorem State.push16_status (s : State) (v : Word) : (s.push16 v).status = s.status := rfl
@[simp] theorem State.push16_input (s : State) (v : Word) : (s.push16 v).input = s.input := rfl
@[simp] theorem State.push16_framebuffer (s : State) (v : Word) : (s.push16 v).framebuffer = s.framebuffer := rfl
@[simp] theorem State.push16_upcoming (s : State) (v : Word) : (s.push16 v).upcoming = s.upcoming := rfl
@[simp] theorem State.push16_params (s : State) (v : Word) : (s.push16 v).params = s.params := rfl
@[simp] theorem State.push16_sp (s : State) (v : Word) : (s.push16 v).sp = s.sp - 1 - 1 := rfl
@[simp] theorem State.push16_mem (s : State) (v : Word) :
    (s.push16 v).mem = busWrite (busWrite s.mem (s.sp - 1) (highByte v)) (s.sp - 1 - 1) (lowByte v) := rfl

/-! ### memWrite2 -/

@[simp] theorem State.memWrite2_b (s : State) (x v : Word) : (s.memWrite2 x v).b = s.b := rfl
@[simp] theorem State.memWrite2_c (s : State) (x v : Word) : (s.memWrite2 x v).c = s.c := rfl
@[simp] theorem State.memWrite2_d (s : State) (x v : Word) : (s.memWrite2 x v).d = s.d := rfl
@[simp] theorem State.memWrite2_e (s : State) (x v : Word) : (s.memWrite2 x v).e = s.e := rfl
@[simp] theorem State.memWrite2_h (s : State) (x v : Word) : (s.memWrite2 x v).h = s.h := rfl
@[simp] theorem State.memWrite2_l (s : State) (x v : Word) : (s.memWrite2 x v).l = s.l := rfl
@[simp] theorem State.memWrite2_a (s : State) (x v : Word) : (s.memWrite2 x v).a = s.a := rfl
@[simp] theorem State.memWrite2_flags (s : State) (x v : Word) : (s.memWrite2 x v).flags = s.flags := rfl
@[simp] theorem State.memWrite2_sp (s : State) (x v : Word) : (s.memWrite2 x v).sp = s.sp := rfl
@[simp] theorem State.memWrite2_pc (s : State) (x v : Word) : (s.memWrite2 x v).pc = s.pc := rfl
@[simp] theorem State.memWrite2_ie (s : State) (x v : Word) : (s.memWrite2 x v).ie = s.ie := rfl
@[simp] theorem State.memWrite2_halted (s : State) (x v : Word) : (s.memWrite2 x v).halted = s.halted := rfl
@[simp] theorem State.memWrite2_shv (s : State) (x v : Word) : (s.memWrite2 x v).shv = s.shv := rfl
@[simp] theorem State.memWrite2_sha (s : State) (x v : Word) : (s.memWrite2 x v).sha = s.sha := rfl
@[simp] theorem State.memWrite2_cyc (s : State) (x v : Word) : (s.memWrite2 x v).cyc = s.cyc := rfl
@[simp] theorem State.memWrite2_phase (s : State) (x v : Word) : (s.memWrite2 x v).phase = s.phase := rfl
@[simp] theorem State.memWrite2_status (s : State) (x v : Word) : (s.memWrite2 x v).status = s.status := rfl
@[simp] theorem State.memWrite2_input (s : State) (x v : Word) : (s.memWrite2 x v).input = s.input := rfl
@[simp] theorem State.memWrite2_framebuffer (s : State) (x v : Word) : (s.memWrite2 x v).framebuffer = s.framebuffer := rfl
@[simp] theorem State.memWrite2_upcoming (s : State) (x v : Word) : (s.memWrite2 x v).upcoming = s.upcoming := rfl
@[simp] theorem State.memWrite2_params (s : State) (x v : Word) : (s.memWrite2 x v).params = s.params := rfl
@[simp] theorem State.memWrite2_mem (s : State) (x v : Word) :
    (s.memWrite2 x v).mem = busWrite (busWrite s.mem x (lowByte v)) (x + 1) (highByte v) := rfl

/-! ### writeCode: what no operand write touches -/

@[simp] theorem State.writeCode_flags (s : State) (r : RegCode) (v : Byte) : (s.writeCode r v).flags = s.flags := by
  cases r <;> rfl
@[simp] theorem State.writeCode_sp (s : State) (r : RegCode) (v : Byte) : (s.writeCode r v).sp = s.sp := by
  cases r <;> rfl
@[simp] theorem State.writeCode_pc (s : State) (r : RegCode) (v : Byte) : (s.writeCode r v).pc = s.pc := by
  cases r <;> rfl
@[simp] theorem State.writeCode_ie (s : State) (r : RegCode) (v : Byte) : (s.writeCode r v).ie = s.ie := by
  cases r <;> rfl
@[simp] theorem State.writeCode_halted (s : State) (r : RegCode) (v : Byte) : (s.writeCode r v).halted = s.halted := by
  cases r <;> rfl
@[simp] theorem State.writeCode_shv (s : State) (r : RegCode) (v : Byte) : (s.writeCode r v).shv = s.shv := by
  cases r <;> rfl
@[simp] theorem State.writeCode_sha (s : State) (r : RegCode) (v : Byte) : (s.writeCode r v).sha = s.sha := by
  cases r <;> rfl
@[simp] theorem State.writeCode_cyc (s : State) (r : RegCode) (v : Byte) : (s.writeCode r v).cyc = s.cyc := by
  cases r <;> rfl
@[simp] theorem State.writeCode_phase (s : State) (r : RegCode) (v : Byte) : (s.writeCode r v).phase = s.phase := by
  cases r <;> rfl
@[simp] theorem State.writeCode_status (s : State) (r : RegCode) (v : Byte) : (s.writeCode r v).status = s.status := by
  cases r <;> rfl
@[simp] theorem State.writeCode_input (s : State) (r : RegCode) (v : Byte) : (s.writeCode r v).input = s.input := by
  cases r <;> rfl
@[simp] theorem State.writeCode_framebuffer (s : State) (r : RegCode) (v : Byte) : (s.writeCode r v).framebuffer = s.framebuffer := by
  cases r <;> rfl
@[simp] theorem State.writeCode_upcoming (s : State) (r : RegCode) (v : Byte) : (s.writeCode r v).upcoming = s.upcoming := by
  cases r <;> rfl
@[simp] theorem State.writeCode_params (s : State) (r : RegCode) (v : Byte) : (s.writeCode r v).params = s.params := by
  cases r <;> rfl

/-! ### writePair: what no pair write touches -/

@[simp] theorem State.writePair_a (s : State) (p : Pair) (w : Word) : (s.writePair p w).a = s.a := by
  cases p <;> rfl
@[simp] theorem State.writePair_flags (s : State) (p : Pair) (w : Word) : (s.writePair p w).flags = s.flags := by
  cases p <;> rfl
@[simp] theorem State.writePair_pc (s : State) (p : Pair) (w : Word) : (s.writePair p w).pc = s.pc := by
  cases p <;> rfl
@[simp] theorem State.writePair_ie (s : State) (p : Pair) (w : Word) : (s.writePair p w).ie = s.ie := by
  cases p <;> rfl
@[simp] theorem State.writePair_halted (s : State) (p : Pair) (w : Word) : (s.writePair p w).halted = s.halted := by
  cases p <;> rfl
@[simp] theorem State.writePair_shv (s : State) (p : Pair) (w : Word) : (s.writePair p w).shv = s.shv := by
  cases p <;> rfl
@[simp] theorem State.writePair_sha (s : State) (p : Pair) (w : Word) : (s.writePair p w).sha = s.sha := by
  cases p <;> rfl
@[simp] theorem State.writePair_cyc (s : State) (p : Pair) (w : Word) : (s.writePair p w).cyc = s.cyc := by
  cases p <;> rfl
@[simp] theorem State.writePair_phase (s : State) (p : Pair) (w : Word) : (s.writePair p w).phase = s.phase := by
  cases p <;> rfl
@[simp] theorem State.writePair_status (s : State) (p : Pair) (w : Word) : (s.writePair p w).status = s.status := by
  cases p <;> rfl
@[simp] theorem State.writePair_input (s : State) (p : Pair) (w : Word) : (s.writePair p w).input = s.input := by
  cases p <;> rfl
@[simp] theorem State.writePair_mem (s : State) (p : Pair) (w : Word) : (s.writePair p w).mem = s.mem := by
  cases p <;> rfl
@[simp] theorem State.writePair_framebuffer (s : State) (p : Pair) (w : Word) : (s.writePair p w).framebuffer = s.framebuffer := by
  cases p <;> rfl
@[simp] theorem State.writePair_upcoming (s : State) (p : Pair) (w : Word) : (s.writePair p w).upcoming = s.upcoming := by
  cases p <;> rfl
@[simp] theorem State.writePair_params (s : State) (p : Pair) (w : Word) : (s.writePair p w).params = s.params := by
  cases p <;> rfl

/-! ### portOut: what no output port touches -/

@[simp] theorem State.portOut_b (s : State) (p v : Byte) : (s.portOut p v).b = s.b := by
  unfold State.portOut; split <;> [rfl; (split <;> rfl)]
@[simp] theorem State.portOut_c (s : State) (p v : Byte) : (s.portOut p v).c = s.c := by
  unfold State.portOut; split <;> [rfl; (split <;> rfl)]
@[simp] theorem State.portOut_d (s : State) (p v : Byte) : (s.portOut p v).d = s.d := by
  unfold State.portOut; split <;> [rfl; (split <;> rfl)]
@[simp] theorem State.portOut_e (s : State) (p v : Byte) : (s.portOut p v).e = s.e := by
  unfold State.portOut; split <;> [rfl; (split <;> rfl)]
@[simp] theorem State.portOut_h (s : State) (p v : Byte) : (s.portOut p v).h = s.h := by
  unfold State.portOut; split <;> [rfl; (split <;> rfl)]
@[simp] theorem State.portOut_l (s : State) (p v : Byte) : (s.portOut p v).l = s.l := by
  unfold State.portOut; split <;> [rfl; (split <;> rfl)]
@[simp] theorem State.portOut_a (s : State) (p v : Byte) : (s.portOut p v).a = s.a := by
  unfold State.portOut; split <;> [rfl; (split <;> rfl)]
@[simp] theorem State.portOut_flags (s : State) (p v : Byte) : (s.portOut p v).flags = s.flags := by
  unfold State.portOut; split <;> [rfl; (split <;> rfl)]
@[simp] theorem State.portOut_sp (s : State) (p v : Byte) : (s.portOut p v).sp = s.sp := by
  unfold State.portOut; split <;> [rfl; (split <;> rfl)]
@[simp] theorem State.portOut_pc (s : State) (p v : Byte) : (s.portOut p v).pc = s.pc := by
  unfold State.portOut; split <;> [rfl; (split <;> rfl)]
@[simp] theorem State.portOut_ie (s : State) (p v : Byte) : (s.portOut p v).ie = s.ie := by
  unfold State.portOut; split <;> [rfl; (split <;> rfl)]
@[simp] theorem State.portOut_halted (s : State) (p v : Byte) : (s.portOut p v).halted = s.halted := by
  unfold State.portOut; split <;> [rfl; (split <;> rfl)]
@[simp] theorem State.portOut_cyc (s : State) (p v : Byte) : (s.portOut p v).cyc = s.cyc := by
  unfold State.portOut; split <;> [rfl; (split <;> rfl)]
@[simp] theorem State.portOut_phase (s : State) (p v : Byte) : (s.portOut p v).phase = s.phase := by
  unfold State.portOut; split <;> [rfl; (split <;> rfl)]
@[simp] theorem State.portOut_status (s : State) (p v : Byte) : (s.portOut p v).status = s.status := by
  unfold State.portOut; split <;> [rfl; (split <;> rfl)]
@[simp] theorem State.portOut_input (s : State) (p v : Byte) : (s.portOut p v).input = s.input := by
  unfold State.portOut; split <;> [rfl; (split <;> rfl)]
@[simp] theorem State.portOut_mem (s : State) (p v : Byte) : (s.portOut p v).mem = s.mem := by
  unfold State.portOut; split <;> [rfl; (split <;> rfl)]
@[simp] theorem State.portOut_framebuffer (s : State) (p v : Byte) : (s.portOut p v).framebuffer = s.framebuffer := by
  unfold State.portOut; split <;> [rfl; (split <;> rfl)]
@[simp] theorem State.portOut_upcoming (s : State) (p v : Byte) : (s.portOut p v).upcoming = s.upcoming := by
  unfold State.portOut; split <;> [rfl; (split <;> rfl)]
@[simp] theorem State.portOut_params (s : State) (p v : Byte) : (s.portOut p v).params = s.params := by
  unfold State.portOut; split <;> [rfl; (split <;> rfl)]

/-! ### deliver and offer -/

@[simp] theorem deliver_b (n : Fin 8) (s : State) : (deliver n s).b = s.b := rfl
@[simp] theorem deliver_c (n : Fin 8) (s : State) : (deliver n s).c = s.c := rfl
@[simp] theorem deliver_d (n : Fin 8) (s : State) : (deliver n s).d = s.d := rfl
@[simp] theorem deliver_e (n : Fin 8) (s : State) : (deliver n s).e = s.e := rfl
@[simp] theorem deliver_h (n : Fin 8) (s : State) : (deliver n s).h = s.h := rfl
@[simp] theorem deliver_l (n : Fin 8) (s : State) : (deliver n s).l = s.l := rfl
@[simp] theorem deliver_a (n : Fin 8) (s : State) : (deliver n s).a = s.a := rfl
@[simp] theorem deliver_flags (n : Fin 8) (s : State) : (deliver n s).flags = s.flags := rfl
@[simp] theorem deliver_shv (n : Fin 8) (s : State) : (deliver n s).shv = s.shv := rfl
@[simp] theorem deliver_sha (n : Fin 8) (s : State) : (deliver n s).sha = s.sha := rfl
@[simp] theorem deliver_phase (n : Fin 8) (s : State) : (deliver n s).phase = s.phase := rfl
@[simp] theorem deliver_status (n : Fin 8) (s : State) : (deliver n s).status = s.status := rfl
@[simp] theorem deliver_input (n : Fin 8) (s : State) : (deliver n s).input = s.input := rfl
@[simp] theorem deliver_framebuffer (n : Fin 8) (s : State) : (deliver n s).framebuffer = s.framebuffer := rfl
@[simp] theorem deliver_upcoming (n : Fin 8) (s : State) : (deliver n s).upcoming = s.upcoming := rfl
@[simp] theorem deliver_params (n : Fin 8) (s : State) : (deliver n s).params = s.params := rfl
@[simp] theorem deliver_pc (n : Fin 8) (s : State) : (deliver n s).pc = restartVector n := rfl
@[simp] theorem deliver_ie (n : Fin 8) (s : State) : (deliver n s).ie = false := rfl
@[simp] theorem deliver_halted (n : Fin 8) (s : State) : (deliver n s).halted = false := rfl
@[simp] theorem deliver_cyc (n : Fin 8) (s : State) : (deliver n s).cyc = s.cyc + s.params.intAckCycles := rfl
@[simp] theorem deliver_sp (n : Fin 8) (s : State) : (deliver n s).sp = s.sp - 1 - 1 := rfl
@[simp] theorem deliver_mem (n : Fin 8) (s : State) : (deliver n s).mem = (s.push16 s.pc).mem := rfl

@[simp] theorem offer_b (n : Fin 8) (s : State) : (offer n s).b = s.b := by
  unfold offer; split <;> rfl
@[simp] theorem offer_c (n : Fin 8) (s : State) : (offer n s).c = s.c := by
  unfold offer; split <;> rfl
@[simp] theorem offer_d (n : Fin 8) (s : State) : (offer n s).d = s.d := by
  unfold offer; split <;> rfl
@[simp] theorem offer_e (n : Fin 8) (s : State) : (offer n s).e = s.e := by
  unfold offer; split <;> rfl
@[simp] theorem offer_h (n : Fin 8) (s : State) : (offer n s).h = s.h := by
  unfold offer; split <;> rfl
@[simp] theorem offer_l (n : Fin 8) (s : State) : (offer n s).l = s.l := by
  unfold offer; split <;> rfl
@[simp] theorem offer_a (n : Fin 8) (s : State) : (offer n s).a = s.a := by
  unfold offer; split <;> rfl
@[simp] theorem offer_flags (n : Fin 8) (s : State) : (offer n s).flags = s.flags := by
  unfold offer; split <;> rfl
@[simp] theorem offer_shv (n : Fin 8) (s : State) : (offer n s).shv = s.shv := by
  unfold offer; split <;> rfl
@[simp] theorem offer_sha (n : Fin 8) (s : State) : (offer n s).sha = s.sha := by
  unfold offer; split <;> rfl
@[simp] theorem offer_phase (n : Fin 8) (s : State) : (offer n s).phase = s.phase := by
  unfold offer; split <;> rfl
@[simp] theorem offer_status (n : Fin 8) (s : State) : (offer n s).status = s.status := by
  unfold offer; split <;> rfl
@[simp] theorem offer_input (n : Fin 8) (s : State) : (offer n s).input = s.input := by
  unfold offer; split <;> rfl
@[simp] theorem offer_framebuffer (n : Fin 8) (s : State) : (offer n s).framebuffer = s.framebuffer := by
  unfold offer; split <;> rfl
@[simp] theorem offer_upcoming (n : Fin 8) (s : State) : (offer n s).upcoming = s.upcoming := by
  unfold offer; split <;> rfl
@[simp] theorem offer_params (n : Fin 8) (s : State) : (offer n s).params = s.params := by
  unfold offer; split <;> rfl

theorem offer_of_ie {n : Fin 8} {s : State} (h : s.ie = true) : offer n s = deliver n s := by simp [offer, h]
theorem offer_of_not_ie {n : Fin 8} {s : State} (h : s.ie = false) : offer n s = s := by simp [offer, h]

end Sys2Proof.Machine
end

