-- ==== Sys2Proof/Laws/Memory.lean ====
section
/-! SUPPORT. The laws of the memory store and of the bus: read after write, the canonical form kept by every operation,
equal memories are equal data. -/

namespace Sys2Proof.Machine

/-! ## The store -/

theorem Memory.get_erase_same (m : Memory) (p : Nat) : Memory.get (Memory.erase m p) p = Memory.unlisted := by
  induction m with
  | nil => rfl
  | cons kv rest ih =>
    obtain ⟨k, v⟩ := kv
    by_cases h : k = p <;> simp [Memory.erase, Memory.get, h, ih]

theorem Memory.get_erase_other (m : Memory) {p q : Nat} (h : q ≠ p) :
    Memory.get (Memory.erase m p) q = Memory.get m q := by
  induction m with
  | nil => rfl
  | cons kv rest ih =>
    obtain ⟨k, v⟩ := kv
    by_cases hk : k = p
    · subst hk; simp [Memory.erase, Memory.get, ih, Ne.symm h]
    · simp [Memory.erase, Memory.get, hk, ih]

/-- Where no entry of p stands, the inserted entry is the one read. -/
theorem Memory.get_insert_same (m : Memory) (p : Nat) (v : Byte) (h : ∀ w, (p, w) ∉ m) :
    Memory.get (Memory.insert m p v) p = v := by
  induction m with
  | nil => simp [Memory.insert, Memory.get]
  | cons kv rest ih =>
    obtain ⟨k, w⟩ := kv
    have hk : k ≠ p := fun e => h w (by simp [e])
    unfold Memory.insert
    split
    · simp [Memory.get]
    · simp [Memory.get, hk, ih (fun u hu => h u (List.mem_cons_of_mem _ hu))]

theorem Memory.get_insert_other (m : Memory) {p q : Nat} (v : Byte) (h : q ≠ p) :
    Memory.get (Memory.insert m p v) q = Memory.get m q := by
  induction m with
  | nil => simp [Memory.insert, Memory.get, Ne.symm h]
  | cons kv rest ih =>
    obtain ⟨k, w⟩ := kv
    unfold Memory.insert
    split
    · simp [Memory.get, Ne.symm h]
    · simp [Memory.get, ih]

theorem Memory.not_mem_erase (m : Memory) (p : Nat) (w : Byte) : (p, w) ∉ Memory.erase m p := by
  induction m with
  | nil => simp [Memory.erase]
  | cons kv rest ih =>
    obtain ⟨k, v⟩ := kv
    by_cases hk : k = p
    · simp [Memory.erase, hk, ih]
    · simp [Memory.erase, hk, ih, Ne.symm hk]

/-- Read after write, same address. -/
@[simp] theorem Memory.get_set_same (m : Memory) (p : Nat) (v : Byte) : Memory.get (Memory.set m p v) p = v := by
  unfold Memory.set
  split
  · rename_i h; rw [Memory.get_erase_same, h]
  · exact Memory.get_insert_same _ _ _ (Memory.not_mem_erase m p)

/-- Read after write, another address. -/
theorem Memory.get_set_other (m : Memory) {p q : Nat} (v : Byte) (h : q ≠ p) :
    Memory.get (Memory.set m p v) q = Memory.get m q := by
  unfold Memory.set
  split
  · exact Memory.get_erase_other m h
  · rw [Memory.get_insert_other _ _ h, Memory.get_erase_other m h]

/-! ## The canonical form -/

theorem Memory.above_trans {m : Memory} {p q : Nat} (h : Memory.above q m = true) (hp : p ≤ q) :
    Memory.above p m = true := by
  induction m with
  | nil => rfl
  | cons kv rest ih =>
    obtain ⟨k, v⟩ := kv
    simp only [Memory.above, Bool.and_eq_true, decide_eq_true_eq] at h ⊢
    exact ⟨by omega, ih h.2⟩

theorem Memory.above_erase {m : Memory} {q : Nat} (p : Nat) (h : Memory.above q m = true) :
    Memory.above q (Memory.erase m p) = true := by
  induction m with
  | nil => rfl
  | cons kv rest ih =>
    obtain ⟨k, v⟩ := kv
    simp only [Memory.above, Bool.and_eq_true, decide_eq_true_eq] at h
    unfold Memory.erase
    split
    · exact ih h.2
    · simp [Memory.above, h.1, ih h.2]

theorem Memory.above_insert {m : Memory} {q p : Nat} (v : Byte) (h : Memory.above q m = true) (hp : q < p) :
    Memory.above q (Memory.insert m p v) = true := by
  induction m with
  | nil => simp [Memory.insert, Memory.above, hp]
  | cons kv rest ih =>
    obtain ⟨k, w⟩ := kv
    unfold Memory.insert
    simp only [Memory.above, Bool.and_eq_true, decide_eq_true_eq] at h
    split
    · simp [Memory.above, hp, h.1, h.2]
    · simp [Memory.above, h.1, ih h.2]

theorem Memory.wf_cons {k : Nat} {v : Byte} {rest : Memory} :
    Memory.wf ((k, v) :: rest) = true ↔
      Memory.above k rest = true ∧ k < 0x4000 ∧ v ≠ Memory.unlisted ∧ Memory.wf rest = true := by
  simp [Memory.wf, and_assoc]

theorem Memory.wf_erase {m : Memory} (p : Nat) (h : Memory.wf m = true) : Memory.wf (Memory.erase m p) = true := by
  induction m with
  | nil => rfl
  | cons kv rest ih =>
    obtain ⟨k, v⟩ := kv
    obtain ⟨h1, h2, h3, h4⟩ := Memory.wf_cons.mp h
    unfold Memory.erase
    split
    · exact ih h4
    · exact Memory.wf_cons.mpr ⟨Memory.above_erase p h1, h2, h3, ih h4⟩

theorem Memory.wf_insert {m : Memory} {p : Nat} {v : Byte} (h : Memory.wf m = true) (hp : p < 0x4000)
    (hv : v ≠ Memory.unlisted) (hn : ∀ w, (p, w) ∉ m) : Memory.wf (Memory.insert m p v) = true := by
  induction m with
  | nil => exact Memory.wf_cons.mpr ⟨rfl, hp, hv, rfl⟩
  | cons kv rest ih =>
    obtain ⟨k, w⟩ := kv
    obtain ⟨h1, h2, h3, h4⟩ := Memory.wf_cons.mp h
    have hk : k ≠ p := fun e => hn w (by simp [e])
    unfold Memory.insert
    split
    · rename_i hlt
      refine Memory.wf_cons.mpr ⟨?_, hp, hv, h⟩
      simp [Memory.above, hlt, Memory.above_trans h1 (Nat.le_of_lt hlt)]
    · exact Memory.wf_cons.mpr ⟨Memory.above_insert v h1 (by omega), h2, h3,
        ih h4 (fun u hu => hn u (List.mem_cons_of_mem _ hu))⟩

/-- A store inside the 16384 bytes keeps the canonical form. -/
theorem Memory.wf_set {m : Memory} {p : Nat} (v : Byte) (h : Memory.wf m = true) (hp : p < 0x4000) :
    Memory.wf (Memory.set m p v) = true := by
  unfold Memory.set
  split
  · exact Memory.wf_erase p h
  · rename_i hv; exact Memory.wf_insert (Memory.wf_erase p h) hp hv (Memory.not_mem_erase m p)

theorem Memory.wf_load {m : Memory} (bytes : List Byte) {base : Nat} (h : Memory.wf m = true)
    (hb : base + bytes.length ≤ 0x4000) : Memory.wf (Memory.load m base bytes) = true := by
  induction bytes generalizing m base with
  | nil => exact h
  | cons v rest ih =>
    simp only [List.length_cons] at hb
    exact ih (Memory.wf_set v h (by omega)) (by omega)

/-- A loaded run of bytes reads back, and nothing else changes. -/
theorem Memory.get_load (bytes : List Byte) (m : Memory) (base q : Nat) :
    Memory.get (Memory.load m base bytes) q =
      if base ≤ q ∧ q < base + bytes.length then bytes.getD (q - base) 0 else Memory.get m q := by
  induction bytes generalizing m base with
  | nil => rw [if_neg (by simp)]; rfl
  | cons b rest ih =>
    rw [Memory.load, ih]
    by_cases h : q = base
    · subst h; simp
    · by_cases h2 : base ≤ q ∧ q < base + (b :: rest).length
      · have h3 : base + 1 ≤ q ∧ q < base + 1 + rest.length := by simp at h2; omega
        rw [if_pos h2, if_pos h3, show q - base = (q - (base + 1)) + 1 by omega]
        rfl
      · have h3 : ¬ (base + 1 ≤ q ∧ q < base + 1 + rest.length) := by simp at h2; omega
        rw [if_neg h2, if_neg h3, Memory.get_set_other _ _ h]

theorem Memory.get_above {m : Memory} {p q : Nat} (h : Memory.above q m = true) (hp : p ≤ q) :
    Memory.get m p = Memory.unlisted := by
  induction m with
  | nil => rfl
  | cons kv rest ih =>
    obtain ⟨k, v⟩ := kv
    simp only [Memory.above, Bool.and_eq_true, decide_eq_true_eq] at h
    have hk : k ≠ p := by omega
    simp [Memory.get, hk, ih h.2]

/-- Equal memories are equal data: two canonical stores that read the same everywhere are the same list. -/
theorem Memory.ext_of_wf {m n : Memory} (hm : Memory.wf m = true) (hn : Memory.wf n = true)
    (h : ∀ p, Memory.get m p = Memory.get n p) : m = n := by
  induction m generalizing n with
  | nil =>
    cases n with
    | nil => rfl
    | cons kv rest =>
      obtain ⟨k, v⟩ := kv
      exact absurd (by simpa [Memory.get] using (h k).symm) (Memory.wf_cons.mp hn).2.2.1
  | cons kv rest ih =>
    obtain ⟨k, v⟩ := kv
    obtain ⟨a1, _, a3, a4⟩ := Memory.wf_cons.mp hm
    cases n with
    | nil => exact absurd (by simpa [Memory.get] using h k) a3
    | cons kw rest' =>
      obtain ⟨k', w⟩ := kw
      obtain ⟨b1, _, b3, b4⟩ := Memory.wf_cons.mp hn
      have hkk : k = k' := by
        by_contra hne
        rcases Nat.lt_or_gt_of_ne hne with hlt | hlt
        · have := h k
          simp [Memory.get, Ne.symm hne, Memory.get_above b1 (Nat.le_of_lt hlt)] at this
          exact a3 this
        · have := (h k').symm
          simp [Memory.get, hne, Memory.get_above a1 (Nat.le_of_lt hlt)] at this
          exact b3 this
      subst hkk
      have hv : v = w := by simpa [Memory.get] using h k
      subst hv
      have : rest = rest' := by
        refine ih a4 b4 fun p => ?_
        by_cases hp : k = p
        · subst hp; rw [Memory.get_above a1 (Nat.le_refl _), Memory.get_above b1 (Nat.le_refl _)]
        · simpa [Memory.get, hp] using h p
      rw [this]

/-! ## The bus -/

theorem physical_eq_mod (a : Word) : physical a = a.toNat % 0x4000 := by
  have : (a &&& 0x3FFF).toNat = a.toNat &&& (2 ^ 14 - 1) := by simp
  rw [physical, this, Nat.and_two_pow_sub_one_eq_mod]

theorem physical_lt (a : Word) : physical a < 0x4000 := by
  rw [physical_eq_mod]; exact Nat.mod_lt _ (by decide)

/-- Neighbouring addresses are different physical bytes. -/
theorem physical_succ_ne (a : Word) : physical (a + 1) ≠ physical a := by
  rw [physical_eq_mod, physical_eq_mod, BitVec.toNat_add]
  have h := a.isLt
  change (a.toNat + 1) % 2 ^ 16 % 0x4000 ≠ a.toNat % 0x4000
  omega

/-- Whether an address is ROM depends on its physical byte alone. -/
theorem isRom_congr {a x : Word} (h : physical x = physical a) : isRom x ↔ isRom a := by
  unfold isRom; rw [h]

/-- Everything a byte store does to the store: dropped in ROM, else that one physical byte (R53). -/
theorem busWrite_cases (m : Memory) (a : Word) (v : Byte) :
    (isRom a ∧ busWrite m a v = m) ∨ (¬ isRom a ∧ busWrite m a v = Memory.set m (physical a) v) := by
  unfold busWrite isRom
  cases h : regionOf (physical a) <;> simp

theorem busWrite_rom {a : Word} (h : isRom a) (m : Memory) (v : Byte) : busWrite m a v = m := by
  rcases busWrite_cases m a v with ⟨_, e⟩ | ⟨h', _⟩
  · exact e
  · exact absurd h h'

theorem busWrite_ram {a : Word} (h : ¬ isRom a) (m : Memory) (v : Byte) :
    busWrite m a v = Memory.set m (physical a) v := by
  rcases busWrite_cases m a v with ⟨h', _⟩ | ⟨_, e⟩
  · exact absurd h' h
  · exact e

theorem Memory.wf_busWrite {m : Memory} (a : Word) (v : Byte) (h : Memory.wf m = true) :
    Memory.wf (busWrite m a v) = true := by
  rcases busWrite_cases m a v with ⟨_, e⟩ | ⟨_, e⟩
  · rw [e]; exact h
  · rw [e]; exact Memory.wf_set v h (physical_lt a)

/-- The byte read behind x after a byte store at a (R52, R53, R54). -/
theorem get_busWrite (m : Memory) (a x : Word) (v : Byte) :
    Memory.get (busWrite m a v) (physical x) =
      if physical x = physical a ∧ ¬ isRom a then v else Memory.get m (physical x) := by
  rcases busWrite_cases m a v with ⟨h, e⟩ | ⟨h, e⟩
  · simp [e, h]
  · by_cases hx : physical x = physical a
    · simp [e, h, hx]
    · rw [e, Memory.get_set_other m v hx]; simp [hx]

/-- A byte store never changes what a ROM address reads (R53). -/
theorem get_busWrite_rom (m : Memory) (a : Word) {x : Word} (v : Byte) (h : isRom x) :
    Memory.get (busWrite m a v) (physical x) = Memory.get m (physical x) := by
  rw [get_busWrite, if_neg]
  rintro ⟨e, hn⟩
  exact hn ((isRom_congr e).mp h)

/-- A read after a byte store, in terms of the state. -/
theorem State.memRead_memWrite (s : State) (a x : Word) (v : Byte) :
    (s.memWrite a v).memRead x = if physical x = physical a ∧ ¬ isRom a then v else s.memRead x :=
  get_busWrite s.mem a x v

/-- What a read sees depends on the store alone. -/
theorem State.memRead_congr {s t : State} (h : t.mem = s.mem) (x : Word) : t.memRead x = s.memRead x := by
  unfold State.memRead; rw [h]

end Sys2Proof.Machine
end

