-- ==== Sys2Proof/Laws/Ops.lean ====
section
/-! SUPPORT. One lemma per shared operation that says all it can do: byte halves, operand writes, stores, the stack, an
interrupt delivery. -/

namespace Sys2Proof.Machine

/-! ## Byte halves -/

theorem lowByte_toNat (w : Word) : (lowByte w).toNat = w.toNat % 256 := by simp [lowByte]

theorem highByte_toNat (w : Word) : (highByte w).toNat = w.toNat / 256 := by
  have h := w.isLt
  simp only [highByte, BitVec.toNat_setWidth, BitVec.toNat_ushiftRight, Nat.shiftRight_eq_div_pow]
  omega

theorem joinBytes_toNat (hi lo : Byte) : (joinBytes hi lo).toNat = 256 * hi.toNat + lo.toNat := by
  rw [joinBytes, BitVec.toNat_append, ← Nat.shiftLeft_add_eq_or_of_lt lo.isLt, Nat.shiftLeft_eq]
  omega

@[simp] theorem lowByte_joinBytes (hi lo : Byte) : lowByte (joinBytes hi lo) = lo := by
  have h := lo.isLt
  apply BitVec.eq_of_toNat_eq
  rw [lowByte_toNat, joinBytes_toNat]
  omega

@[simp] theorem highByte_joinBytes (hi lo : Byte) : highByte (joinBytes hi lo) = hi := by
  have h := lo.isLt
  apply BitVec.eq_of_toNat_eq
  rw [highByte_toNat, joinBytes_toNat]
  omega

@[simp] theorem joinBytes_high_low (w : Word) : joinBytes (highByte w) (lowByte w) = w := by
  apply BitVec.eq_of_toNat_eq
  rw [joinBytes_toNat, highByte_toNat, lowByte_toNat]
  omega

theorem sub_one_one (w : Word) : w - 1 - 1 = w - 2 := by bv_omega

theorem add_one_one (w : Word) : w + 1 + 1 = w + 2 := by bv_omega

theorem sub_two_add_one (w : Word) : w - 2 + 1 = w - 1 := by bv_omega

/-! ## Operand writes -/

/-- The operand written reads back, for a register (R21). -/
theorem State.readCode_writeCode_same (s : State) {r : RegCode} (v : Byte) (h : r ≠ .m) :
    (s.writeCode r v).readCode r = v := by
  cases r <;> first | rfl | exact absurd rfl h

/-- A register write changes no other register (R21). -/
theorem State.readCode_writeCode_other (s : State) {r x : RegCode} (v : Byte) (hr : r ≠ .m) (hx : x ≠ .m)
    (h : x ≠ r) : (s.writeCode r v).readCode x = s.readCode x := by
  cases r <;> cases x <;> first | rfl | contradiction

/-- A register write touches the seven registers alone. -/
theorem State.writeCode_eq (s : State) {r : RegCode} (v : Byte) (h : r ≠ .m) :
    s.writeCode r v =
      { s with b := (s.writeCode r v).b, c := (s.writeCode r v).c, d := (s.writeCode r v).d,
               e := (s.writeCode r v).e, h := (s.writeCode r v).h, l := (s.writeCode r v).l,
               a := (s.writeCode r v).a } := by
  cases r <;> first | rfl | exact absurd rfl h

theorem State.readPair_writePair_same (s : State) (p : Pair) (w : Word) : (s.writePair p w).readPair p = w := by
  cases p <;> first | rfl | exact joinBytes_high_low w

theorem State.readPair_writePair_other (s : State) {p q : Pair} (w : Word) (h : q ≠ p) :
    (s.writePair p w).readPair q = s.readPair q := by
  cases p <;> cases q <;> first | rfl | contradiction

/-! ## Stores -/

/-- A state whose memory is s after one byte store satisfies StoresByte. -/
theorem storesByte_of_mem {s t : State} {a : Word} {v : Byte} (h : t.mem = busWrite s.mem a v) :
    StoresByte s t a v := by
  have hr : ∀ x, t.memRead x = if physical x = physical a ∧ ¬ isRom a then v else s.memRead x := by
    intro x; unfold State.memRead; rw [h, get_busWrite]
  refine ⟨fun x hx => ?_, fun x hx => ?_⟩
  · rw [hr, hx]
    by_cases hrom : isRom a <;> simp [hrom]
  · rw [hr]; simp [hx]

/-- What is read after two byte stores at different physical bytes. -/
theorem get_busWrite_busWrite (m : Memory) {a b : Word} (x : Word) (u v : Byte) (h : physical a ≠ physical b) :
    Memory.get (busWrite (busWrite m a u) b v) (physical x) =
      if physical x = physical a then (if isRom a then Memory.get m (physical x) else u)
      else if physical x = physical b then (if isRom b then Memory.get m (physical x) else v)
      else Memory.get m (physical x) := by
  rw [get_busWrite, get_busWrite]
  by_cases ha : physical x = physical a
  · simp only [ha, h, false_and, if_false, true_and, if_true]
    by_cases hr : isRom a <;> simp [hr]
  · by_cases hb : physical x = physical b
    · have hba : physical b ≠ physical a := Ne.symm h
      simp only [hb, hba, false_and, if_false, true_and, if_true]
      by_cases hr : isRom b <;> simp [hr]
    · simp [ha, hb]

/-- A state whose memory is s after the two byte stores of a 16-bit store satisfies StoresWord, in either order. -/
theorem storesWord_of_mem {s t : State} {a v : Word}
    (h : t.mem = busWrite (busWrite s.mem a (lowByte v)) (a + 1) (highByte v) ∨
      t.mem = busWrite (busWrite s.mem (a + 1) (highByte v)) a (lowByte v)) : StoresWord s t a v := by
  have hne : physical (a + 1) ≠ physical a := physical_succ_ne a
  have hr : ∀ x, t.memRead x =
      if physical x = physical a then (if isRom a then s.memRead x else lowByte v)
      else if physical x = physical (a + 1) then (if isRom (a + 1) then s.memRead x else highByte v)
      else s.memRead x := by
    intro x
    rcases h with h | h
    · unfold State.memRead; rw [h, get_busWrite_busWrite _ _ _ _ (Ne.symm hne)]
    · unfold State.memRead; rw [h, get_busWrite_busWrite _ _ _ _ hne]
      by_cases ha : physical x = physical a
      · rw [if_neg (ha ▸ Ne.symm hne), if_pos ha, if_pos ha]
      · rw [if_neg ha, if_neg ha]
  refine ⟨fun x hx => ?_, fun x hx => ?_, fun x hx hx' => ?_⟩
  · rw [hr, if_pos hx]
  · rw [hr, if_neg (hx ▸ hne), if_pos hx]
  · rw [hr, if_neg hx, if_neg hx']

/-- Push16 stores v as a 16-bit value at SP - 2 (R76). -/
theorem storesWord_push16 (s : State) (v : Word) : StoresWord s (s.push16 v) (s.sp - 2) v := by
  refine storesWord_of_mem (.inr ?_)
  rw [State.push16_mem, sub_one_one, sub_two_add_one]

theorem State.push16_sp' (s : State) (v : Word) : (s.push16 v).sp = s.sp - 2 := by
  rw [State.push16_sp, sub_one_one]

/-- StoresWord speaks of the reads of its two states alone. -/
theorem storesWord_congr {s t s' t' : State} {a v : Word} (h : StoresWord s t a v) (hs : s'.mem = s.mem)
    (ht : t'.mem = t.mem) : StoresWord s' t' a v := by
  unfold StoresWord at h ⊢
  simpa only [State.memRead_congr hs, State.memRead_congr ht] using h

theorem memoryKept_of_mem {s t : State} (h : t.mem = s.mem) : MemoryKept s t := State.memRead_congr h

/-- Push16 followed by a jump, from a state that differs from s in PC alone. -/
theorem pushes_push16 (s : State) (n : Nat) (v w : Word) : Pushes v w s (((s.advance n).push16 v).setPc w) := by
  refine ⟨?_, ?_, rfl, ?_⟩
  · rfl
  · rw [State.setPc_sp, State.push16_sp', State.advance_sp]
  · exact storesWord_congr (s := s.advance n) (t := (s.advance n).push16 v)
      (storesWord_push16 (s.advance n) v) (by simp) (by simp)

/-- Everything an interrupt delivery does (R257). -/
theorem delivers_deliver (n : Fin 8) (s : State) : Delivers (restartVector n) s (deliver n s) := by
  refine ⟨?_, storesWord_congr (s := s) (t := s.push16 s.pc) (storesWord_push16 s s.pc) rfl (by simp [deliver])⟩
  simp only [deliver, State.push16, sub_one_one]

/-! ## Frames -/

/-- A register write after the PC advance has the register frame. -/
theorem registerFrame_writeCode (s : State) (n : Nat) {r : RegCode} (v : Byte) (h : r ≠ .m) :
    RegisterFrame r n s ((s.advance n).writeCode r v) := by
  cases r
  case m => exact absurd rfl h
  all_goals
    refine ⟨rfl, ?_, rfl, memoryKept_of_mem rfl⟩
    intro x hx hxr
    cases x <;> first | rfl | contradiction

/-- A pair write after the PC advance has the pair frame. -/
theorem pairFrame_writePair (s : State) (p : Pair) (n : Nat) (w : Word) :
    PairFrame p n s ((s.advance n).writePair p w) := by
  refine ⟨by cases p <;> rfl, fun q hq => ?_, by cases p <;> rfl, by cases p <;> exact fun _ => rfl⟩
  rw [State.readPair_writePair_other _ _ hq]
  cases q <;> rfl

/-- A return after the PC advance (R205). -/
theorem returnFromCall_advance (s : State) (n : Nat) :
    returnFromCall (s.advance n) =
      { s with pc := joinBytes (s.memRead (s.sp + 1)) (s.memRead s.sp), sp := s.sp + 2 } := by
  simp only [returnFromCall, State.dropTop, State.setSp, State.setPc, State.top16, State.advance, add_one_one]
  rfl

/-! ## The shift register -/

/-- The shift result is the eight bits of shv from bit 8 - sha up (R66). -/
theorem shiftResult_eq (s : State) : s.shiftResult = s.shv.extractLsb' (8 - s.sha.toNat) 8 := by
  have h : s.sha.toNat ≤ 7 := by have := s.sha.isLt; omega
  apply BitVec.eq_of_getLsbD_eq
  intro i hi
  simp only [State.shiftResult, BitVec.getLsbD_ofNat, BitVec.getLsbD_extractLsb', Nat.testBit_shiftRight,
    Nat.testBit_shiftLeft]
  have h' : s.sha.toNat ≤ 8 + i := by omega
  simp only [hi, decide_true, Bool.true_and, ge_iff_le, h']
  rw [show 8 + i - s.sha.toNat = 8 - s.sha.toNat + i by omega]
  rfl

/-- Shifting a byte in: it becomes the high byte, the old high byte the low one (R65). -/
theorem shiftIn_shv_toNat (s : State) (v : Byte) : (s.shiftIn v).shv.toNat = 256 * v.toNat + s.shv.toNat / 256 := by
  have hv := v.isLt
  have hs := s.shv.isLt
  simp only [State.shiftIn, BitVec.toNat_or, BitVec.toNat_shiftLeft, BitVec.toNat_setWidth, BitVec.toNat_ushiftRight,
    Nat.shiftRight_eq_div_pow]
  rw [Nat.mod_eq_of_lt (show v.toNat < 2 ^ 16 by omega), Nat.shiftLeft_eq, Nat.mod_eq_of_lt (by omega),
    ← Nat.shiftLeft_eq, ← Nat.shiftLeft_add_eq_or_of_lt (by omega), Nat.shiftLeft_eq]
  omega

end Sys2Proof.Machine
end

