-- ==== Sys2Proof/Laws/Exec.lean ====
section
/-! SUPPORT. What an instruction can do to the machine as a whole, said once: `exec_effect` names everything exec can
change outside the registers, so that no whole-machine proof unfolds the 256 meanings again. -/

namespace Sys2Proof.Machine

/-! ## Memory under byte stores -/

/-- From m to m' only byte stores through the bus happened: the canonical form is kept, ROM bytes read as before. -/
structure OnlyBusWrites (m m' : Memory) : Prop where
  wf : Memory.wf m = true → Memory.wf m' = true
  rom : ∀ x : Word, isRom x → Memory.get m' (physical x) = Memory.get m (physical x)

theorem OnlyBusWrites.refl (m : Memory) : OnlyBusWrites m m := ⟨id, fun _ _ => rfl⟩

theorem OnlyBusWrites.write {m m' : Memory} (h : OnlyBusWrites m m') (a : Word) (v : Byte) :
    OnlyBusWrites m (busWrite m' a v) :=
  ⟨fun hm => Memory.wf_busWrite a v (h.wf hm), fun x hx => (get_busWrite_rom m' a v hx).trans (h.rom x hx)⟩

/-! ## Quiet effects: registers, flags, PC, SP and memory alone -/

/-- From s to t nothing but registers, flags, SP, PC and stored bytes changed. -/
structure Quiet (s t : State) : Prop where
  params : t.params = s.params
  input : t.input = s.input
  upcoming : t.upcoming = s.upcoming
  cyc : t.cyc = s.cyc
  phase : t.phase = s.phase
  framebuffer : t.framebuffer = s.framebuffer
  status : t.status = s.status
  ie : t.ie = s.ie
  halted : t.halted = s.halted
  shv : t.shv = s.shv
  sha : t.sha = s.sha
  mem : OnlyBusWrites s.mem t.mem

/-- An effect that is quiet from every state. -/
def QuietEffect (f : State → State) : Prop := ∀ s, Quiet s (f s)

theorem quiet_of_mem_eq {s t : State} (h1 : t.params = s.params) (h2 : t.input = s.input)
    (h3 : t.upcoming = s.upcoming) (h4 : t.cyc = s.cyc) (h5 : t.phase = s.phase) (h6 : t.framebuffer = s.framebuffer)
    (h7 : t.status = s.status) (h8 : t.ie = s.ie) (h9 : t.halted = s.halted) (h10 : t.shv = s.shv) (h11 : t.sha = s.sha)
    (h12 : t.mem = s.mem) : Quiet s t :=
  ⟨h1, h2, h3, h4, h5, h6, h7, h8, h9, h10, h11, h12 ▸ OnlyBusWrites.refl _⟩

theorem quiet_writeCode (s : State) (r : RegCode) (v : Byte) : Quiet s (s.writeCode r v) := by
  cases r
  case m => exact ⟨rfl, rfl, rfl, rfl, rfl, rfl, rfl, rfl, rfl, rfl, rfl, (OnlyBusWrites.refl _).write _ _⟩
  all_goals exact quiet_of_mem_eq rfl rfl rfl rfl rfl rfl rfl rfl rfl rfl rfl rfl

theorem quiet_writePair (s : State) (p : Pair) (w : Word) : Quiet s (s.writePair p w) := by
  cases p <;> exact quiet_of_mem_eq rfl rfl rfl rfl rfl rfl rfl rfl rfl rfl rfl rfl

theorem quiet_memWrite (s : State) (a : Word) (v : Byte) : Quiet s (s.memWrite a v) :=
  ⟨rfl, rfl, rfl, rfl, rfl, rfl, rfl, rfl, rfl, rfl, rfl, (OnlyBusWrites.refl _).write _ _⟩

theorem quiet_setAF (s : State) (r : Byte × Flags) : Quiet s (s.setAF r) :=
  quiet_of_mem_eq rfl rfl rfl rfl rfl rfl rfl rfl rfl rfl rfl rfl

theorem quiet_setA (s : State) (v : Byte) : Quiet s (s.setA v) :=
  quiet_of_mem_eq rfl rfl rfl rfl rfl rfl rfl rfl rfl rfl rfl rfl

theorem quiet_setFlags (s : State) (f : Flags) : Quiet s (s.setFlags f) :=
  quiet_of_mem_eq rfl rfl rfl rfl rfl rfl rfl rfl rfl rfl rfl rfl

theorem quiet_setPc (s : State) (w : Word) : Quiet s (s.setPc w) :=
  quiet_of_mem_eq rfl rfl rfl rfl rfl rfl rfl rfl rfl rfl rfl rfl

theorem quiet_setSp (s : State) (w : Word) : Quiet s (s.setSp w) :=
  quiet_of_mem_eq rfl rfl rfl rfl rfl rfl rfl rfl rfl rfl rfl rfl

theorem quiet_advance (s : State) (n : Nat) : Quiet s (s.advance n) :=
  quiet_of_mem_eq rfl rfl rfl rfl rfl rfl rfl rfl rfl rfl rfl rfl

theorem quiet_refl (s : State) : Quiet s s :=
  quiet_of_mem_eq rfl rfl rfl rfl rfl rfl rfl rfl rfl rfl rfl rfl

theorem OnlyBusWrites.trans {m m' m'' : Memory} (h : OnlyBusWrites m m') (h' : OnlyBusWrites m' m'') :
    OnlyBusWrites m m'' := ⟨fun hm => h'.wf (h.wf hm), fun x hx => (h'.rom x hx).trans (h.rom x hx)⟩

theorem Quiet.trans {s t u : State} (h : Quiet s t) (h' : Quiet t u) : Quiet s u :=
  ⟨h'.params.trans h.params, h'.input.trans h.input, h'.upcoming.trans h.upcoming, h'.cyc.trans h.cyc,
   h'.phase.trans h.phase, h'.framebuffer.trans h.framebuffer, h'.status.trans h.status, h'.ie.trans h.ie,
   h'.halted.trans h.halted, h'.shv.trans h.shv, h'.sha.trans h.sha, h.mem.trans h'.mem⟩

theorem quiet_push16 (s : State) (v : Word) : Quiet s (s.push16 v) :=
  (quiet_setSp s _).trans ((quiet_memWrite _ _ _).trans ((quiet_setSp _ _).trans (quiet_memWrite _ _ _)))

theorem quiet_memWrite2 (s : State) (a v : Word) : Quiet s (s.memWrite2 a v) :=
  (quiet_memWrite s _ _).trans (quiet_memWrite _ _ _)

theorem quiet_ite {s t u : State} {c : Prop} [Decidable c] (ht : Quiet s t) (hu : Quiet s u) :
    Quiet s (if c then t else u) := by split <;> assumption

theorem quiet_moveReg (dst r : RegCode) : QuietEffect (moveReg dst r) := fun _ => quiet_writeCode _ _ _
theorem quiet_moveImm (dst : RegCode) (n : Byte) : QuietEffect (moveImm dst n) := fun _ => quiet_writeCode _ _ _
theorem quiet_loadPair (p : Pair) (w : Word) : QuietEffect (loadPair p w) := fun _ => quiet_writePair _ _ _
theorem quiet_loadA (w : Word) : QuietEffect (loadA w) := fun _ => quiet_setA _ _
theorem quiet_storeA (w : Word) : QuietEffect (storeA w) := fun _ => quiet_memWrite _ _ _
theorem quiet_loadHL (w : Word) : QuietEffect (loadHL w) := fun _ => quiet_writePair _ _ _
theorem quiet_storeHL (w : Word) : QuietEffect (storeHL w) := fun _ => quiet_memWrite2 _ _ _
theorem quiet_loadAIndirect (p : AccPair) : QuietEffect (loadAIndirect p) := fun _ => quiet_setA _ _
theorem quiet_storeAIndirect (p : AccPair) : QuietEffect (storeAIndirect p) := fun _ => quiet_memWrite _ _ _
theorem quiet_exchangeDEHL : QuietEffect exchangeDEHL := fun _ => quiet_of_mem_eq rfl rfl rfl rfl rfl rfl rfl rfl rfl rfl rfl rfl
theorem quiet_addReg (r : RegCode) : QuietEffect (addReg r) := fun _ => quiet_setAF _ _
theorem quiet_adcReg (r : RegCode) : QuietEffect (adcReg r) := fun _ => quiet_setAF _ _
theorem quiet_subReg (r : RegCode) : QuietEffect (subReg r) := fun _ => quiet_setAF _ _
theorem quiet_sbbReg (r : RegCode) : QuietEffect (sbbReg r) := fun _ => quiet_setAF _ _
theorem quiet_anaReg (r : RegCode) : QuietEffect (anaReg r) := fun _ => quiet_setAF _ _
theorem quiet_xraReg (r : RegCode) : QuietEffect (xraReg r) := fun _ => quiet_setAF _ _
theorem quiet_oraReg (r : RegCode) : QuietEffect (oraReg r) := fun _ => quiet_setAF _ _
theorem quiet_addImm (n : Byte) : QuietEffect (addImm n) := fun _ => quiet_setAF _ _
theorem quiet_adcImm (n : Byte) : QuietEffect (adcImm n) := fun _ => quiet_setAF _ _
theorem quiet_subImm (n : Byte) : QuietEffect (subImm n) := fun _ => quiet_setAF _ _
theorem quiet_sbbImm (n : Byte) : QuietEffect (sbbImm n) := fun _ => quiet_setAF _ _
theorem quiet_anaImm (n : Byte) : QuietEffect (anaImm n) := fun _ => quiet_setAF _ _
theorem quiet_xraImm (n : Byte) : QuietEffect (xraImm n) := fun _ => quiet_setAF _ _
theorem quiet_oraImm (n : Byte) : QuietEffect (oraImm n) := fun _ => quiet_setAF _ _
theorem quiet_cmpReg (r : RegCode) : QuietEffect (cmpReg r) := fun _ => quiet_setFlags _ _
theorem quiet_cmpImm (n : Byte) : QuietEffect (cmpImm n) := fun _ => quiet_setFlags _ _
theorem quiet_incCode (r : RegCode) : QuietEffect (incCode r) := fun _ => (quiet_setFlags _ _).trans (quiet_writeCode _ _ _)
theorem quiet_decCode (r : RegCode) : QuietEffect (decCode r) := fun _ => (quiet_setFlags _ _).trans (quiet_writeCode _ _ _)
theorem quiet_incPair (p : Pair) : QuietEffect (incPair p) := fun _ => quiet_writePair _ _ _
theorem quiet_decPair (p : Pair) : QuietEffect (decPair p) := fun _ => quiet_writePair _ _ _
theorem quiet_addPair (p : Pair) : QuietEffect (addPair p) := fun s => (quiet_setFlags s { s.flags with cy := (s.hl.toNat + (s.readPair p).toNat).testBit 16 }).trans (quiet_writePair _ .hl _)
theorem quiet_decimalAdjust : QuietEffect decimalAdjust := fun _ => quiet_setAF _ _
theorem quiet_rotateLeft : QuietEffect rotateLeft := fun _ => quiet_setAF _ _
theorem quiet_rotateRight : QuietEffect rotateRight := fun _ => quiet_setAF _ _
theorem quiet_rotateLeftCarry : QuietEffect rotateLeftCarry := fun _ => quiet_setAF _ _
theorem quiet_rotateRightCarry : QuietEffect rotateRightCarry := fun _ => quiet_setAF _ _
theorem quiet_complementA : QuietEffect complementA := fun _ => quiet_setA _ _
theorem quiet_complementCarry : QuietEffect complementCarry := fun _ => quiet_setFlags _ _
theorem quiet_setCarry : QuietEffect setCarry := fun _ => quiet_setFlags _ _
theorem quiet_jumpTo (w : Word) : QuietEffect (jumpTo w) := fun _ => quiet_setPc _ _
theorem quiet_callTo (w : Word) : QuietEffect (callTo w) := fun _ => (quiet_push16 _ _).trans (quiet_setPc _ _)
theorem quiet_returnFromCall : QuietEffect returnFromCall := fun _ => (quiet_setSp _ _).trans (quiet_setPc _ _)
theorem quiet_jumpIf (cc : Cond) (w : Word) : QuietEffect (jumpIf cc w) := fun _ => quiet_ite (quiet_setPc _ _) (quiet_refl _)
theorem quiet_callIf (cc : Cond) (w : Word) : QuietEffect (callIf cc w) := fun _ => quiet_ite ((quiet_push16 _ _).trans (quiet_setPc _ _)) (quiet_refl _)
theorem quiet_returnIf (cc : Cond) : QuietEffect (returnIf cc) := fun _ => quiet_ite ((quiet_setSp _ _).trans (quiet_setPc _ _)) (quiet_refl _)
theorem quiet_restart (n : Fin 8) : QuietEffect (restart n) := fun _ => (quiet_push16 _ _).trans (quiet_setPc _ _)
theorem quiet_jumpToHL : QuietEffect jumpToHL := fun _ => quiet_setPc _ _
theorem quiet_pushPair (p : Pair) : QuietEffect (pushPair p) := fun _ => quiet_push16 _ _
theorem quiet_pushPSW : QuietEffect pushPSW := fun _ => quiet_push16 _ _
theorem quiet_popPair (p : Pair) : QuietEffect (popPair p) := fun _ => (quiet_setSp _ _).trans (quiet_writePair _ _ _)
theorem quiet_popPSW : QuietEffect popPSW := fun _ => (quiet_setSp _ _).trans (quiet_setAF _ _)
theorem quiet_exchangeTopHL : QuietEffect exchangeTopHL := fun _ => (quiet_memWrite2 _ _ _).trans (quiet_writePair _ _ _)
theorem quiet_loadSpHL : QuietEffect loadSpHL := fun _ => quiet_setSp _ _
theorem quiet_inPort (n : Byte) : QuietEffect (inPort n) := fun _ => quiet_setA _ _
theorem quiet_noEffect : QuietEffect noEffect := fun _ => quiet_refl _

/-! ## What exec can do outside the registers -/

/-- Everything the instruction i can change, from s to t, outside the registers, the flags, SP and PC. -/
structure Effect (i : Instr) (s t : State) : Prop where
  params : t.params = s.params
  input : t.input = s.input
  upcoming : t.upcoming = s.upcoming
  cyc : t.cyc = s.cyc
  phase : t.phase = s.phase
  framebuffer : t.framebuffer = s.framebuffer
  mem : OnlyBusWrites s.mem t.mem
  status : t.status = s.status ∨
    (i.documented = false ∧ s.params.undoc = .fault ∧ ∃ op : Byte, t.status = .faulted .unimplementedOpcode s.pc op)
  ie : t.ie = s.ie ∨ (i = .ei ∧ t.ie = true) ∨ (i = .di ∧ t.ie = false)
  halted : t.halted = s.halted ∨ (i = .hlt ∧ t.halted = true)
  shv : t.shv = s.shv ∨ i = .out 4
  sha : t.sha = s.sha ∨ i = .out 2

theorem Quiet.effect {i : Instr} {s t : State} (h : Quiet s t) : Effect i s t :=
  ⟨h.params, h.input, h.upcoming, h.cyc, h.phase, h.framebuffer, h.mem, .inl h.status, .inl h.ie, .inl h.halted,
   .inl h.shv, .inl h.sha⟩

/-- A quiet instruction completes, and its effect is quiet. -/
theorem effect_complete {i : Instr} {s : State} {n : Nat} {f : State → State} (h : QuietEffect f) :
    ∃ t, complete n f s = .next t ∧ Effect i s t :=
  ⟨_, rfl, ((quiet_advance s n).trans (h _)).effect⟩

/-- An illegal opcode whose alias is quiet. -/
theorem effect_undocumented {i : Instr} {s : State} {op : Byte} {n : Nat} {f : State → State}
    (hi : i.documented = false) (h : QuietEffect f) :
    ∃ t, undocumented op (complete n f) s = .next t ∧ Effect i s t := by
  unfold undocumented
  cases hu : s.params.undoc
  · exact ⟨_, rfl, rfl, rfl, rfl, rfl, rfl, rfl, OnlyBusWrites.refl _, .inr ⟨hi, hu, op, rfl⟩, .inl rfl, .inl rfl, .inl rfl,
      .inl rfl⟩
  · exact effect_complete h

theorem effect_out (n : Byte) (s : State) : ∃ t, execOut n s = .next t ∧ Effect (.out n) s t := by
  refine ⟨_, rfl, ?_⟩
  unfold outPort State.portOut
  split
  · rename_i h; subst h
    exact ⟨rfl, rfl, rfl, rfl, rfl, rfl, OnlyBusWrites.refl _, .inl rfl, .inl rfl, .inl rfl, .inl rfl, .inr rfl⟩
  · split
    · rename_i h; subst h
      exact ⟨rfl, rfl, rfl, rfl, rfl, rfl, OnlyBusWrites.refl _, .inl rfl, .inl rfl, .inl rfl, .inr rfl, .inl rfl⟩
    · exact (quiet_advance s 2).effect

theorem effect_ei (s : State) : ∃ t, execEi s = .next t ∧ Effect .ei s t :=
  ⟨_, rfl, rfl, rfl, rfl, rfl, rfl, rfl, OnlyBusWrites.refl _, .inl rfl, .inr (.inl ⟨rfl, rfl⟩), .inl rfl, .inl rfl,
   .inl rfl⟩

theorem effect_di (s : State) : ∃ t, execDi s = .next t ∧ Effect .di s t :=
  ⟨_, rfl, rfl, rfl, rfl, rfl, rfl, rfl, OnlyBusWrites.refl _, .inl rfl, .inr (.inr ⟨rfl, rfl⟩), .inl rfl, .inl rfl,
   .inl rfl⟩

theorem effect_hlt (s : State) : ∃ t, execHlt s = .next t ∧ Effect .hlt s t :=
  ⟨_, rfl, rfl, rfl, rfl, rfl, rfl, rfl, OnlyBusWrites.refl _, .inl rfl, .inl rfl, .inr ⟨rfl, rfl⟩, .inl rfl, .inl rfl⟩

/-- Every instruction, from every state, completes with its effect. -/
theorem exec_effect (i : Instr) (s : State) : ∃ t, exec i s = .next t ∧ Effect i s t := by
  cases i with
  | lxiB w => exact effect_complete (quiet_loadPair .bc w)
  | lxiD w => exact effect_complete (quiet_loadPair .de w)
  | lxiH w => exact effect_complete (quiet_loadPair .hl w)
  | shld w => exact effect_complete (quiet_storeHL w)
  | lhld w => exact effect_complete (quiet_loadHL w)
  | lxiSP w => exact effect_complete (quiet_loadPair .sp w)
  | sta w => exact effect_complete (quiet_storeA w)
  | lda w => exact effect_complete (quiet_loadA w)
  | jnz w => exact effect_complete (quiet_jumpIf .nz w)
  | jmp w => exact effect_complete (quiet_jumpTo w)
  | cnz w => exact effect_complete (quiet_callIf .nz w)
  | jz w => exact effect_complete (quiet_jumpIf .z w)
  | illegalCBh w => exact effect_undocumented rfl (quiet_jumpTo w)
  | cz w => exact effect_complete (quiet_callIf .z w)
  | call w => exact effect_complete (quiet_callTo w)
  | jnc w => exact effect_complete (quiet_jumpIf .nc w)
  | cnc w => exact effect_complete (quiet_callIf .nc w)
  | jc w => exact effect_complete (quiet_jumpIf .c w)
  | cc w => exact effect_complete (quiet_callIf .c w)
  | illegalDDh w => exact effect_undocumented rfl (quiet_callTo w)
  | jpo w => exact effect_complete (quiet_jumpIf .po w)
  | cpo w => exact effect_complete (quiet_callIf .po w)
  | jpe w => exact effect_complete (quiet_jumpIf .pe w)
  | cpe w => exact effect_complete (quiet_callIf .pe w)
  | illegalEDh w => exact effect_undocumented rfl (quiet_callTo w)
  | jp w => exact effect_complete (quiet_jumpIf .p w)
  | cp w => exact effect_complete (quiet_callIf .p w)
  | jm w => exact effect_complete (quiet_jumpIf .m w)
  | cm w => exact effect_complete (quiet_callIf .m w)
  | illegalFDh w => exact effect_undocumented rfl (quiet_callTo w)
  | mviB n => exact effect_complete (quiet_moveImm .b n)
  | mviC n => exact effect_complete (quiet_moveImm .c n)
  | mviD n => exact effect_complete (quiet_moveImm .d n)
  | mviE n => exact effect_complete (quiet_moveImm .e n)
  | mviH n => exact effect_complete (quiet_moveImm .h n)
  | mviL n => exact effect_complete (quiet_moveImm .l n)
  | mviM n => exact effect_complete (quiet_moveImm .m n)
  | mviA n => exact effect_complete (quiet_moveImm .a n)
  | adi n => exact effect_complete (quiet_addImm n)
  | aci n => exact effect_complete (quiet_adcImm n)
  | out n => exact effect_out n s
  | sui n => exact effect_complete (quiet_subImm n)
  | inp n => exact effect_complete (quiet_inPort n)
  | sbi n => exact effect_complete (quiet_sbbImm n)
  | ani n => exact effect_complete (quiet_anaImm n)
  | xri n => exact effect_complete (quiet_xraImm n)
  | ori n => exact effect_complete (quiet_oraImm n)
  | cpi n => exact effect_complete (quiet_cmpImm n)
  | nop => exact effect_complete quiet_noEffect
  | staxB => exact effect_complete (quiet_storeAIndirect .bc)
  | inxB => exact effect_complete (quiet_incPair .bc)
  | inrB => exact effect_complete (quiet_incCode .b)
  | dcrB => exact effect_complete (quiet_decCode .b)
  | rlc => exact effect_complete quiet_rotateLeft
  | illegal08h => exact effect_undocumented rfl quiet_noEffect
  | dadB => exact effect_complete (quiet_addPair .bc)
  | ldaxB => exact effect_complete (quiet_loadAIndirect .bc)
  | dcxB => exact effect_complete (quiet_decPair .bc)
  | inrC => exact effect_complete (quiet_incCode .c)
  | dcrC => exact effect_complete (quiet_decCode .c)
  | rrc => exact effect_complete quiet_rotateRight
  | illegal10h => exact effect_undocumented rfl quiet_noEffect
  | staxD => exact effect_complete (quiet_storeAIndirect .de)
  | inxD => exact effect_complete (quiet_incPair .de)
  | inrD => exact effect_complete (quiet_incCode .d)
  | dcrD => exact effect_complete (quiet_decCode .d)
  | ral => exact effect_complete quiet_rotateLeftCarry
  | illegal18h => exact effect_undocumented rfl quiet_noEffect
  | dadD => exact effect_complete (quiet_addPair .de)
  | ldaxD => exact effect_complete (quiet_loadAIndirect .de)
  | dcxD => exact effect_complete (quiet_decPair .de)
  | inrE => exact effect_complete (quiet_incCode .e)
  | dcrE => exact effect_complete (quiet_decCode .e)
  | rar => exact effect_complete quiet_rotateRightCarry
  | illegal20h => exact effect_undocumented rfl quiet_noEffect
  | inxH => exact effect_complete (quiet_incPair .hl)
  | inrH => exact effect_complete (quiet_incCode .h)
  | dcrH => exact effect_complete (quiet_decCode .h)
  | daa => exact effect_complete quiet_decimalAdjust
  | illegal28h => exact effect_undocumented rfl quiet_noEffect
  | dadH => exact effect_complete (quiet_addPair .hl)
  | dcxH => exact effect_complete (quiet_decPair .hl)
  | inrL => exact effect_complete (quiet_incCode .l)
  | dcrL => exact effect_complete (quiet_decCode .l)
  | cma => exact effect_complete quiet_complementA
  | illegal30h => exact effect_undocumented rfl quiet_noEffect
  | inxSP => exact effect_complete (quiet_incPair .sp)
  | inrM => exact effect_complete (quiet_incCode .m)
  | dcrM => exact effect_complete (quiet_decCode .m)
  | stc => exact effect_complete quiet_setCarry
  | illegal38h => exact effect_undocumented rfl quiet_noEffect
  | dadSP => exact effect_complete (quiet_addPair .sp)
  | dcxSP => exact effect_complete (quiet_decPair .sp)
  | inrA => exact effect_complete (quiet_incCode .a)
  | dcrA => exact effect_complete (quiet_decCode .a)
  | cmc => exact effect_complete quiet_complementCarry
  | movBB => exact effect_complete (quiet_moveReg .b .b)
  | movBC => exact effect_complete (quiet_moveReg .b .c)
  | movBD => exact effect_complete (quiet_moveReg .b .d)
  | movBE => exact effect_complete (quiet_moveReg .b .e)
  | movBH => exact effect_complete (quiet_moveReg .b .h)
  | movBL => exact effect_complete (quiet_moveReg .b .l)
  | movBM => exact effect_complete (quiet_moveReg .b .m)
  | movBA => exact effect_complete (quiet_moveReg .b .a)
  | movCB => exact effect_complete (quiet_moveReg .c .b)
  | movCC => exact effect_complete (quiet_moveReg .c .c)
  | movCD => exact effect_complete (quiet_moveReg .c .d)
  | movCE => exact effect_complete (quiet_moveReg .c .e)
  | movCH => exact effect_complete (quiet_moveReg .c .h)
  | movCL => exact effect_complete (quiet_moveReg .c .l)
  | movCM => exact effect_complete (quiet_moveReg .c .m)
  | movCA => exact effect_complete (quiet_moveReg .c .a)
  | movDB => exact effect_complete (quiet_moveReg .d .b)
  | movDC => exact effect_complete (quiet_moveReg .d .c)
  | movDD => exact effect_complete (quiet_moveReg .d .d)
  | movDE => exact effect_complete (quiet_moveReg .d .e)
  | movDH => exact effect_complete (quiet_moveReg .d .h)
  | movDL => exact effect_complete (quiet_moveReg .d .l)
  | movDM => exact effect_complete (quiet_moveReg .d .m)
  | movDA => exact effect_complete (quiet_moveReg .d .a)
  | movEB => exact effect_complete (quiet_moveReg .e .b)
  | movEC => exact effect_complete (quiet_moveReg .e .c)
  | movED => exact effect_complete (quiet_moveReg .e .d)
  | movEE => exact effect_complete (quiet_moveReg .e .e)
  | movEH => exact effect_complete (quiet_moveReg .e .h)
  | movEL => exact effect_complete (quiet_moveReg .e .l)
  | movEM => exact effect_complete (quiet_moveReg .e .m)
  | movEA => exact effect_complete (quiet_moveReg .e .a)
  | movHB => exact effect_complete (quiet_moveReg .h .b)
  | movHC => exact effect_complete (quiet_moveReg .h .c)
  | movHD => exact effect_complete (quiet_moveReg .h .d)
  | movHE => exact effect_complete (quiet_moveReg .h .e)
  | movHH => exact effect_complete (quiet_moveReg .h .h)
  | movHL => exact effect_complete (quiet_moveReg .h .l)
  | movHM => exact effect_complete (quiet_moveReg .h .m)
  | movHA => exact effect_complete (quiet_moveReg .h .a)
  | movLB => exact effect_complete (quiet_moveReg .l .b)
  | movLC => exact effect_complete (quiet_moveReg .l .c)
  | movLD => exact effect_complete (quiet_moveReg .l .d)
  | movLE => exact effect_complete (quiet_moveReg .l .e)
  | movLH => exact effect_complete (quiet_moveReg .l .h)
  | movLL => exact effect_complete (quiet_moveReg .l .l)
  | movLM => exact effect_complete (quiet_moveReg .l .m)
  | movLA => exact effect_complete (quiet_moveReg .l .a)
  | movMB => exact effect_complete (quiet_moveReg .m .b)
  | movMC => exact effect_complete (quiet_moveReg .m .c)
  | movMD => exact effect_complete (quiet_moveReg .m .d)
  | movME => exact effect_complete (quiet_moveReg .m .e)
  | movMH => exact effect_complete (quiet_moveReg .m .h)
  | movML => exact effect_complete (quiet_moveReg .m .l)
  | hlt => exact effect_hlt s
  | movMA => exact effect_complete (quiet_moveReg .m .a)
  | movAB => exact effect_complete (quiet_moveReg .a .b)
  | movAC => exact effect_complete (quiet_moveReg .a .c)
  | movAD => exact effect_complete (quiet_moveReg .a .d)
  | movAE => exact effect_complete (quiet_moveReg .a .e)
  | movAH => exact effect_complete (quiet_moveReg .a .h)
  | movAL => exact effect_complete (quiet_moveReg .a .l)
  | movAM => exact effect_complete (quiet_moveReg .a .m)
  | movAA => exact effect_complete (quiet_moveReg .a .a)
  | addB => exact effect_complete (quiet_addReg .b)
  | addC => exact effect_complete (quiet_addReg .c)
  | addD => exact effect_complete (quiet_addReg .d)
  | addE => exact effect_complete (quiet_addReg .e)
  | addH => exact effect_complete (quiet_addReg .h)
  | addL => exact effect_complete (quiet_addReg .l)
  | addM => exact effect_complete (quiet_addReg .m)
  | addA => exact effect_complete (quiet_addReg .a)
  | adcB => exact effect_complete (quiet_adcReg .b)
  | adcC => exact effect_complete (quiet_adcReg .c)
  | adcD => exact effect_complete (quiet_adcReg .d)
  | adcE => exact effect_complete (quiet_adcReg .e)
  | adcH => exact effect_complete (quiet_adcReg .h)
  | adcL => exact effect_complete (quiet_adcReg .l)
  | adcM => exact effect_complete (quiet_adcReg .m)
  | adcA => exact effect_complete (quiet_adcReg .a)
  | subB => exact effect_complete (quiet_subReg .b)
  | subC => exact effect_complete (quiet_subReg .c)
  | subD => exact effect_complete (quiet_subReg .d)
  | subE => exact effect_complete (quiet_subReg .e)
  | subH => exact effect_complete (quiet_subReg .h)
  | subL => exact effect_complete (quiet_subReg .l)
  | subM => exact effect_complete (quiet_subReg .m)
  | subA => exact effect_complete (quiet_subReg .a)
  | sbbB => exact effect_complete (quiet_sbbReg .b)
  | sbbC => exact effect_complete (quiet_sbbReg .c)
  | sbbD => exact effect_complete (quiet_sbbReg .d)
  | sbbE => exact effect_complete (quiet_sbbReg .e)
  | sbbH => exact effect_complete (quiet_sbbReg .h)
  | sbbL => exact effect_complete (quiet_sbbReg .l)
  | sbbM => exact effect_complete (quiet_sbbReg .m)
  | sbbA => exact effect_complete (quiet_sbbReg .a)
  | anaB => exact effect_complete (quiet_anaReg .b)
  | anaC => exact effect_complete (quiet_anaReg .c)
  | anaD => exact effect_complete (quiet_anaReg .d)
  | anaE => exact effect_complete (quiet_anaReg .e)
  | anaH => exact effect_complete (quiet_anaReg .h)
  | anaL => exact effect_complete (quiet_anaReg .l)
  | anaM => exact effect_complete (quiet_anaReg .m)
  | anaA => exact effect_complete (quiet_anaReg .a)
  | xraB => exact effect_complete (quiet_xraReg .b)
  | xraC => exact effect_complete (quiet_xraReg .c)
  | xraD => exact effect_complete (quiet_xraReg .d)
  | xraE => exact effect_complete (quiet_xraReg .e)
  | xraH => exact effect_complete (quiet_xraReg .h)
  | xraL => exact effect_complete (quiet_xraReg .l)
  | xraM => exact effect_complete (quiet_xraReg .m)
  | xraA => exact effect_complete (quiet_xraReg .a)
  | oraB => exact effect_complete (quiet_oraReg .b)
  | oraC => exact effect_complete (quiet_oraReg .c)
  | oraD => exact effect_complete (quiet_oraReg .d)
  | oraE => exact effect_complete (quiet_oraReg .e)
  | oraH => exact effect_complete (quiet_oraReg .h)
  | oraL => exact effect_complete (quiet_oraReg .l)
  | oraM => exact effect_complete (quiet_oraReg .m)
  | oraA => exact effect_complete (quiet_oraReg .a)
  | cmpB => exact effect_complete (quiet_cmpReg .b)
  | cmpC => exact effect_complete (quiet_cmpReg .c)
  | cmpD => exact effect_complete (quiet_cmpReg .d)
  | cmpE => exact effect_complete (quiet_cmpReg .e)
  | cmpH => exact effect_complete (quiet_cmpReg .h)
  | cmpL => exact effect_complete (quiet_cmpReg .l)
  | cmpM => exact effect_complete (quiet_cmpReg .m)
  | cmpA => exact effect_complete (quiet_cmpReg .a)
  | rnz => exact effect_complete (quiet_returnIf .nz)
  | popB => exact effect_complete (quiet_popPair .bc)
  | pushB => exact effect_complete (quiet_pushPair .bc)
  | rst0 => exact effect_complete (quiet_restart 0)
  | rz => exact effect_complete (quiet_returnIf .z)
  | ret => exact effect_complete quiet_returnFromCall
  | rst1 => exact effect_complete (quiet_restart 1)
  | rnc => exact effect_complete (quiet_returnIf .nc)
  | popD => exact effect_complete (quiet_popPair .de)
  | pushD => exact effect_complete (quiet_pushPair .de)
  | rst2 => exact effect_complete (quiet_restart 2)
  | rc => exact effect_complete (quiet_returnIf .c)
  | illegalD9h => exact effect_undocumented rfl quiet_returnFromCall
  | rst3 => exact effect_complete (quiet_restart 3)
  | rpo => exact effect_complete (quiet_returnIf .po)
  | popH => exact effect_complete (quiet_popPair .hl)
  | xthl => exact effect_complete quiet_exchangeTopHL
  | pushH => exact effect_complete (quiet_pushPair .hl)
  | rst4 => exact effect_complete (quiet_restart 4)
  | rpe => exact effect_complete (quiet_returnIf .pe)
  | pchl => exact effect_complete quiet_jumpToHL
  | xchg => exact effect_complete quiet_exchangeDEHL
  | rst5 => exact effect_complete (quiet_restart 5)
  | rp => exact effect_complete (quiet_returnIf .p)
  | popPSW => exact effect_complete quiet_popPSW
  | di => exact effect_di s
  | pushPSW => exact effect_complete quiet_pushPSW
  | rst6 => exact effect_complete (quiet_restart 6)
  | rm => exact effect_complete (quiet_returnIf .m)
  | sphl => exact effect_complete quiet_loadSpHL
  | ei => exact effect_ei s
  | rst7 => exact effect_complete (quiet_restart 7)

/-! ## Cycle costs -/

/-- No instruction costs more than the step bound (R261). -/
theorem cycles_le (i : Instr) (s : State) : cycles i s ≤ Params.stepBound s.params := by
  have hc : ∀ (cc : Cond) (x y : Nat), x ≤ Params.stepBound s.params → y ≤ Params.stepBound s.params →
      condCycles cc x y s ≤ Params.stepBound s.params := by
    intro cc x y hx hy; unfold condCycles; split <;> assumption
  have h18 : ∀ n : Nat, n ≤ 18 → n ≤ Params.stepBound s.params := fun n hn => le_trans hn (le_max_left _ _)
  have hj : s.params.jccNotTakenCycles ≤ Params.stepBound s.params := le_max_right _ _
  cases i <;>
    first
      | (refine h18 _ ?_; simp only [cycles]; decide)
      | (refine hc _ _ _ (h18 _ ?_) (h18 _ ?_) <;> decide)
      | (refine hc _ _ _ (h18 _ ?_) hj; decide)

/-- Every instruction costs at least one cycle, if a conditional jump not taken does (R111, R202). -/
theorem cycles_pos (i : Instr) (s : State) (hj : 1 ≤ s.params.jccNotTakenCycles) : 1 ≤ cycles i s := by
  have hc : ∀ (cc : Cond) (x y : Nat), 1 ≤ x → 1 ≤ y → 1 ≤ condCycles cc x y s := by
    intro cc x y hx hy; unfold condCycles; split <;> assumption
  cases i <;>
    first
      | (simp only [cycles]; decide)
      | (refine hc _ _ _ ?_ ?_ <;> decide)
      | (refine hc _ _ _ ?_ hj; decide)

end Sys2Proof.Machine
end

