-- ==== Sys2Proof/Laws/Flags.lean ====
section
/-! SUPPORT. One lemma per flag computation: what its result and flags are over the integers. -/

namespace Sys2Proof.Machine

theorem lowNibble_eq_mod (a : Byte) : lowNibble a = a.toNat % 16 := by
  have : (a &&& 0x0F).toNat = a.toNat &&& (2 ^ 4 - 1) := by simp
  rw [lowNibble, this, Nat.and_two_pow_sub_one_eq_mod]

/-- The carry out of bit 7 of a sum below 512. -/
theorem testBit_eight {t : Nat} (h : t < 512) : t.testBit 8 = decide (256 ≤ t) := by
  rw [Nat.testBit_eq_decide_div_mod_eq]
  congr 1
  exact propext ⟨fun _ => by omega, fun _ => by omega⟩

/-- The carry out of bit 15 of a sum below 131072. -/
theorem testBit_sixteen {t : Nat} (h : t < 131072) : t.testBit 16 = decide (65536 ≤ t) := by
  rw [Nat.testBit_eq_decide_div_mod_eq]
  congr 1
  exact propext ⟨fun _ => by omega, fun _ => by omega⟩

theorem bool_toNat_le (c : Bool) : c.toNat ≤ 1 := by cases c <;> decide

theorem msb_iff (r : Byte) : r.getLsbD 7 = true ↔ 128 ≤ r.toNat := by
  have := r.isLt
  rw [BitVec.getLsbD, Nat.testBit_eq_decide_div_mod_eq, decide_eq_true_eq]
  omega

theorem parity_iff : ∀ r : Byte,
    parity r = true ↔ (List.countP (fun i => r.getLsbD i) (List.range 8)) % 2 = 0 := by decide +revert

/-- `szp` writes S, Z and P of its argument. -/
theorem signZeroParity_szp (f : Flags) (r : Byte) : SignZeroParity r (f.szp r) := by
  refine ⟨msb_iff r, ?_, parity_iff r⟩
  simp [Flags.szp, BitVec.toNat_eq]

@[simp] theorem Flags.szp_cy (f : Flags) (r : Byte) : (f.szp r).cy = f.cy := rfl
@[simp] theorem Flags.szp_ac (f : Flags) (r : Byte) : (f.szp r).ac = f.ac := rfl

theorem sumOf_add8 (a b : Byte) (c : Bool) (f : Flags) : SumOf a b c (add8 a b c f).1 (add8 a b c f).2 := by
  have ha := a.isLt
  have hb := b.isLt
  have hc := bool_toNat_le c
  refine ⟨by simp [add8], ?_, ?_, signZeroParity_szp _ _⟩
  · simp only [add8, Flags.szp_cy]
    rw [testBit_eight (by omega), decide_eq_true_eq]
  · simp only [add8, Flags.szp_ac, lowNibble_eq_mod, decide_eq_true_eq]
    omega

theorem differenceOf_sub8 (a b : Byte) (c : Bool) (f : Flags) :
    DifferenceOf a b c (sub8 a b c f).1 (sub8 a b c f).2 := by
  have ha := a.isLt
  have hb := b.isLt
  have hc := bool_toNat_le c
  have hn : (~~~b).toNat = 255 - b.toNat := by simp [BitVec.toNat_not]
  refine ⟨?_, ?_, ?_, signZeroParity_szp _ _⟩
  · simp only [sub8, BitVec.toNat_ofNat, hn]
    omega
  · simp only [sub8, Flags.szp_cy, hn]
    rw [testBit_eight (by omega), Bool.not_eq_true', decide_eq_false_iff_not]
    omega
  · simp only [sub8, Flags.szp_ac, lowNibble_eq_mod, hn, decide_eq_true_eq]
    omega

theorem conjunctionOf_and8 (policy : AndAcPolicy) (a b : Byte) (f : Flags) :
    ConjunctionOf policy a b (and8 policy a b f).1 (and8 policy a b f).2 := by
  refine ⟨rfl, rfl, signZeroParity_szp _ _, ?_, ?_, ?_⟩ <;> rintro rfl <;>
    simp [and8, andAuxCarry]

theorem logicFlags_logic (f : Flags) (r : Byte) : LogicFlags r (f.logic r) :=
  ⟨rfl, rfl, signZeroParity_szp _ _⟩

/-- INR: the result, AC, CY and S Z P. -/
theorem inc8_spec (v : Byte) (f : Flags) :
    (inc8 v f).1.toNat = (v.toNat + 1) % 256 ∧ SignZeroParity (inc8 v f).1 (inc8 v f).2 ∧
    ((inc8 v f).2.ac = true ↔ v.toNat % 16 = 15) ∧ (inc8 v f).2.cy = f.cy := by
  refine ⟨by simp [inc8, BitVec.toNat_add], signZeroParity_szp _ _, ?_, rfl⟩
  simp [inc8, lowNibble_eq_mod]

/-- DCR: the result, AC, CY and S Z P. -/
theorem dec8_spec (v : Byte) (f : Flags) :
    (dec8 v f).1.toNat = (v.toNat + 255) % 256 ∧ SignZeroParity (dec8 v f).1 (dec8 v f).2 ∧
    ((dec8 v f).2.ac = true ↔ v.toNat % 16 ≠ 0) ∧ (dec8 v f).2.cy = f.cy := by
  refine ⟨?_, signZeroParity_szp _ _, ?_, rfl⟩
  · have h1 : (1 : Byte).toNat = 1 := rfl
    simp only [dec8, BitVec.toNat_sub, h1]
    omega
  · simp [dec8, lowNibble_eq_mod]

/-- The two corrections of DAA do not overlap, so their OR is their sum. -/
theorem daa_corr (x y : Bool) :
    ((if x then 0x06 else 0) ||| (if y then 0x60 else 0) : Nat) = (if x then 6 else 0) + (if y then 0x60 else 0) := by
  cases x <;> cases y <;> rfl

/-- The flags byte is the number of its weighted bits (R26). -/
theorem flags_toByte_eq (f : Flags) : f.toByte = BitVec.ofNat 8 (flagsNumber f) := by
  obtain ⟨s, z, ac, p, cy⟩ := f
  cases s <;> cases z <;> cases ac <;> cases p <;> cases cy <;> rfl

/-- Popping the flags byte that was pushed gives the flags back (R26). -/
@[simp] theorem Flags.ofByte_toByte (f : Flags) : Flags.ofByte f.toByte = f := by
  obtain ⟨s, z, ac, p, cy⟩ := f
  cases s <;> cases z <;> cases ac <;> cases p <;> cases cy <;> rfl

/-- The model's condition is the condition of R200. -/
theorem cond_iff_holds (f : Flags) (cc : Cond) : f.cond cc = true ↔ Holds f cc := by
  cases cc <;> simp [Flags.cond, Holds]

/-- CMP: Z exactly when the operands are equal, CY exactly when A is below (R187). -/
theorem sub8_compare (a b : Byte) (f : Flags) :
    ((sub8 a b false f).2.z = true ↔ a = b) ∧ ((sub8 a b false f).2.cy = true ↔ a.toNat < b.toNat) := by
  obtain ⟨hr, hcy, -, -, hz, -⟩ := differenceOf_sub8 a b false f
  have ha := a.isLt
  have hb := b.isLt
  refine ⟨?_, by simpa using hcy⟩
  rw [hz, ← BitVec.toNat_inj]
  simp only [Bool.toNat_false, Nat.cast_zero, sub_zero] at hr
  omega

@[simp] theorem getLsbD_bitByte (c : Bool) (k : Nat) : (bitByte c).getLsbD k = (decide (k = 0) && c) := by
  cases c <;> rcases k with _ | k <;> simp [bitByte]

/-- The eight bits of a rotated byte, for each of the four rotations (R189 to R192). -/
theorem rotate_bits (a : Byte) (c : Bool) {i : Nat} (hi : i < 8) :
    ((a <<< 1 ||| bitByte (a.getLsbD 7)).getLsbD i = a.getLsbD ((i + 7) % 8)) ∧
    ((a >>> 1 ||| bitByte (a.getLsbD 0) <<< 7).getLsbD i = a.getLsbD ((i + 1) % 8)) ∧
    ((a <<< 1 ||| bitByte c).getLsbD i = if i = 0 then c else a.getLsbD (i - 1)) ∧
    ((a >>> 1 ||| bitByte c <<< 7).getLsbD i = if i = 7 then c else a.getLsbD (i + 1)) := by
  have h : i = 0 ∨ i = 1 ∨ i = 2 ∨ i = 3 ∨ i = 4 ∨ i = 5 ∨ i = 6 ∨ i = 7 := by omega
  rcases h with h | h | h | h | h | h | h | h <;> subst h <;>
    simp only [BitVec.getLsbD_or, BitVec.getLsbD_shiftLeft, BitVec.getLsbD_ushiftRight, getLsbD_bitByte] <;> simp

/-- DAA over the integers: the result, CY and AC (R166). -/
theorem daa8_spec (a : Byte) (f : Flags) :
    let lo := a.toNat % 16
    let hi := a.toNat / 16
    let fixLow := f.ac || decide (9 < lo)
    let fixHigh := f.cy || decide (9 < hi) || (decide (9 ≤ hi) && decide (9 < lo))
    (daa8 a f).1.toNat = (a.toNat + (if fixLow then 6 else 0) + (if fixHigh then 0x60 else 0)) % 256 ∧
    (daa8 a f).2.cy = fixHigh ∧ (daa8 a f).2.ac = decide (15 < lo + (if fixLow then 6 else 0)) := by
  have hH : daaHigh a f = (f.cy || decide (9 < a.toNat / 16) || (decide (9 ≤ a.toNat / 16) &&
      decide (9 < a.toNat % 16))) := by
    have hhi : (a >>> 4).toNat = a.toNat / 16 := by simp [Nat.shiftRight_eq_div_pow]
    simp only [daaHigh, hhi, lowNibble_eq_mod, gt_iff_lt, ge_iff_le]
  have hc : daaLow a f ||| (if daaHigh a f then 0x60 else 0) =
      (if (f.ac || decide (9 < a.toNat % 16)) then 6 else 0) + (if daaHigh a f then 0x60 else 0) := by
    simp only [daaLow, lowNibble_eq_mod, gt_iff_lt]
    exact daa_corr _ _
  dsimp only
  rw [← hH]
  refine ⟨?_, ?_, ?_⟩
  · simp only [daa8, hc, BitVec.toNat_ofNat, Nat.add_assoc]
  · simp only [daa8, Flags.szp_cy]
    cases h : daaHigh a f
    · cases h' : f.cy
      · rfl
      · simp [daaHigh, h'] at h
    · rfl
  · simp only [daa8, Flags.szp_ac, hc, lowNibble_eq_mod]
    cases daaHigh a f <;> cases (f.ac || decide (9 < a.toNat % 16)) <;> rfl

end Sys2Proof.Machine
end

