-- ==== Sys2Proof/Laws/Video.lean ====
section
/-! SUPPORT. What the rasterizer reads for each pixel, and that it depends on memory alone. -/

namespace Sys2Proof.Machine

/-- The pixel of row y and column x is one bit of one video-RAM byte (R71, R73). -/
theorem rasterize_pixel (s : State) {y x : Nat} (hy : y < 256) (hx : x < 224) :
    ((rasterize s)[y]?.bind fun row => row[x]?) = some ((s.memRead (pixelAddress y x)).getLsbD (pixelBit y)) := by
  unfold rasterize
  rw [Vector.getElem?_ofFn, dif_pos hy, Option.bind_some, Vector.getElem?_ofFn, dif_pos hx]

/-- States with one memory have one picture (R75). -/
theorem rasterize_congr {s t : State} (h : t.mem = s.mem) : rasterize t = rasterize s := by
  unfold rasterize State.memRead
  rw [h]

end Sys2Proof.Machine
end

