-- ==== Sys2Proof/Laws/Step.lean ====
section
/-! SUPPORT. What a boundary can do and what a step can do, said once. -/

namespace Sys2Proof.Machine

/-! ## The boundary -/

/-- The three things a boundary can be: no event, the mid-screen event, the end-of-frame event (R254, R258). -/
theorem boundary_cases (cost : Nat) (s : State) :
    (boundary cost s = s.addCycles cost ∧
      s.cyc + cost < (match s.phase with | .preMid => s.params.tMid | .preEnd => s.params.tEnd)) ∨
    (s.phase = .preMid ∧ s.params.tMid ≤ s.cyc + cost ∧
      boundary cost s = { offer 1 (s.addCycles cost) with phase := .preEnd }) ∨
    (s.phase = .preEnd ∧ s.params.tEnd ≤ s.cyc + cost ∧
      boundary cost s =
        { offer 2 (s.addCycles cost) with
          framebuffer := some (rasterize (offer 2 (s.addCycles cost))), cyc := 0, phase := .preMid,
          input := s.upcoming.headD s.input, upcoming := s.upcoming.tail }) := by
  unfold boundary controller
  cases hp : s.phase
  · by_cases h : s.params.tMid ≤ s.cyc + cost
    · exact .inr (.inl ⟨rfl, h, by simp [hp, h, midScreenEvent]⟩)
    · exact .inl ⟨by simp [hp, h], by simpa using h⟩
  · by_cases h : s.params.tEnd ≤ s.cyc + cost
    · refine .inr (.inr ⟨rfl, h, ?_⟩)
      cases hq : s.upcoming <;> simp [hp, h, endOfFrameEvent, takeSnapshot, hq]
    · exact .inl ⟨by simp [hp, h], by simpa using h⟩

/-- What every boundary keeps: it changes no register, flag or parameter, and memory only through the bus. -/
structure BoundaryEffect (s t : State) : Prop where
  b : t.b = s.b
  c : t.c = s.c
  d : t.d = s.d
  e : t.e = s.e
  h : t.h = s.h
  l : t.l = s.l
  a : t.a = s.a
  flags : t.flags = s.flags
  shv : t.shv = s.shv
  sha : t.sha = s.sha
  status : t.status = s.status
  params : t.params = s.params
  mem : OnlyBusWrites s.mem t.mem

theorem mem_offer (n : Fin 8) (s : State) : OnlyBusWrites s.mem (offer n s).mem := by
  unfold offer
  split
  · exact (quiet_push16 s s.pc).mem
  · exact OnlyBusWrites.refl _

theorem boundary_effect (cost : Nat) (s : State) : BoundaryEffect s (boundary cost s) := by
  obtain ⟨h, -⟩ | ⟨-, -, h⟩ | ⟨-, -, h⟩ := boundary_cases cost s <;> rw [h]
  · exact ⟨rfl, rfl, rfl, rfl, rfl, rfl, rfl, rfl, rfl, rfl, rfl, rfl, OnlyBusWrites.refl _⟩
  · exact ⟨by simp, by simp, by simp, by simp, by simp, by simp, by simp, by simp, by simp, by simp, by simp, by simp,
      mem_offer 1 (s.addCycles cost)⟩
  · exact ⟨by simp, by simp, by simp, by simp, by simp, by simp, by simp, by simp, by simp, by simp, by simp, by simp,
      mem_offer 2 (s.addCycles cost)⟩

/-- Where the interrupt enable and halted go at a boundary: kept, or both cleared by a delivery, which also sets PC. -/
theorem boundary_interrupt (cost : Nat) (s : State) :
    ((boundary cost s).ie = s.ie ∧ (boundary cost s).halted = s.halted ∧ (boundary cost s).pc = s.pc) ∨
    (s.ie = true ∧ (boundary cost s).ie = false ∧ (boundary cost s).halted = false ∧
      (((boundary cost s).pc = restartVector 1 ∧ (boundary cost s).phase = .preEnd) ∨
        ((boundary cost s).pc = restartVector 2 ∧ (boundary cost s).phase = .preMid))) := by
  obtain ⟨h, -⟩ | ⟨-, -, h⟩ | ⟨-, -, h⟩ := boundary_cases cost s <;> rw [h]
  · exact .inl ⟨rfl, rfl, rfl⟩
  · cases hi : s.ie
    · rw [offer_of_not_ie (by simpa using hi)]; exact .inl ⟨hi, rfl, rfl⟩
    · rw [offer_of_ie (by simpa using hi)]; exact .inr ⟨rfl, rfl, rfl, .inl ⟨rfl, rfl⟩⟩
  · cases hi : s.ie
    · rw [offer_of_not_ie (by simpa using hi)]; exact .inl ⟨hi, rfl, rfl⟩
    · rw [offer_of_ie (by simpa using hi)]; exact .inr ⟨rfl, rfl, rfl, .inr ⟨rfl, rfl⟩⟩

/-- Where the input bytes go at a boundary: kept, or the next snapshot where a frame ends (R268). -/
theorem boundary_input (cost : Nat) (s : State) :
    ((boundary cost s).input = s.input ∧ (boundary cost s).upcoming = s.upcoming) ∨
    (s.phase = .preEnd ∧ (boundary cost s).phase = .preMid ∧
      (boundary cost s).input = s.upcoming.headD s.input ∧ (boundary cost s).upcoming = s.upcoming.tail) := by
  obtain ⟨h, -⟩ | ⟨-, -, h⟩ | ⟨hp, -, h⟩ := boundary_cases cost s <;> rw [h]
  · exact .inl ⟨rfl, rfl⟩
  · exact .inl ⟨by simp, by simp⟩
  · exact .inr ⟨hp, rfl, rfl, rfl⟩

/-! ## The step -/

theorem step_faulted {s : State} {code : FaultCode} {pc : Word} {op : Byte} (h : s.status = .faulted code pc op) :
    step s = .fault (sessionOver code pc op) := by simp [step, h]

theorem step_halted {s : State} (hr : s.status = .running) (hh : s.halted = true) :
    step s = .next (boundary 7 s) := by simp [step, hr, hh, haltedStep, haltStepCycles]

theorem step_running {s : State} (hr : s.status = .running) (hh : s.halted = false) :
    step s = afterExec (cycles (fetch s) s) (exec (fetch s) s) := by simp [step, hr, hh]

/-- A next state of a step, from a running state, is one of three: the halted step, the boundary after an instruction
that completed, or the state an illegal opcode faulted in. -/
theorem step_cases {s t : State} (h : step s = .next t) :
    s.status = .running ∧
    ((s.halted = true ∧ t = boundary 7 s) ∨
     (s.halted = false ∧ ∃ u, exec (fetch s) s = .next u ∧ Effect (fetch s) s u ∧
       ((u.status = .running ∧ t = boundary (cycles (fetch s) s) u) ∨ (u.status ≠ .running ∧ t = u)))) := by
  cases hs : s.status with
  | faulted code pc op => rw [step_faulted hs] at h; cases h
  | running =>
    refine ⟨rfl, ?_⟩
    cases hh : s.halted
    · refine .inr ⟨rfl, ?_⟩
      obtain ⟨u, hu, he⟩ := exec_effect (fetch s) s
      rw [step_running hs hh, hu] at h
      refine ⟨u, hu, he, ?_⟩
      simp only [afterExec, finishStep] at h
      cases hus : u.status with
      | running => rw [hus] at h; cases h; exact .inl ⟨rfl, rfl⟩
      | faulted code pc op => rw [hus] at h; cases h; exact .inr ⟨by simp, rfl⟩
    · rw [step_halted hs hh] at h; cases h; exact .inl ⟨rfl, rfl⟩

end Sys2Proof.Machine
end

