-- ==== Sys2Proof/Machine/Assembly.lean ====
section
/-! DEFINITION. The assembler syntax of an instruction (30_encoding.md R114): the mnemonic, a space, the operands
separated by a comma, destination first, numbers in hexadecimal with an `h` suffix (and a leading 0 before a letter digit, as
in the spec's examples `0FFh`). The machine does not depend on it. -/

namespace Sys2Proof

/-- A hexadecimal digit. -/
def hexDigit (n : Nat) : String := "0123456789ABCDEF".toList.getD (n % 16) '0' |>.toString

/-- The hexadecimal digits of a number, exactly `digits` of them. -/
def hexDigits : Nat → Nat → String
  | 0, _ => ""
  | digits + 1, n => hexDigits digits (n / 16) ++ hexDigit n

/-- A number of the given count of digits, with the `h` suffix and a leading 0 before a letter. -/
def hexNumber (digits n : Nat) : String :=
  (if 10 ≤ n / 16 ^ (digits - 1) then "0" else "") ++ hexDigits digits n ++ "h"

/-- An 8-bit operand. -/
def asmByte (n : Byte) : String := hexNumber 2 n.toNat

/-- A 16-bit operand. -/
def asmWord (w : Word) : String := hexNumber 4 w.toNat

/-- The instruction in assembler syntax (R114); an illegal opcode as spec/opcode_table.json names it. -/
def Instr.assembly : Instr → String
  | .nop => "NOP"
  | .lxiB w => "LXI B," ++ asmWord w
  | .staxB => "STAX B"
  | .inxB => "INX B"
  | .inrB => "INR B"
  | .dcrB => "DCR B"
  | .mviB n => "MVI B," ++ asmByte n
  | .rlc => "RLC"
  | .illegal08h => "(illegal 08h)"
  | .dadB => "DAD B"
  | .ldaxB => "LDAX B"
  | .dcxB => "DCX B"
  | .inrC => "INR C"
  | .dcrC => "DCR C"
  | .mviC n => "MVI C," ++ asmByte n
  | .rrc => "RRC"
  | .illegal10h => "(illegal 10h)"
  | .lxiD w => "LXI D," ++ asmWord w
  | .staxD => "STAX D"
  | .inxD => "INX D"
  | .inrD => "INR D"
  | .dcrD => "DCR D"
  | .mviD n => "MVI D," ++ asmByte n
  | .ral => "RAL"
  | .illegal18h => "(illegal 18h)"
  | .dadD => "DAD D"
  | .ldaxD => "LDAX D"
  | .dcxD => "DCX D"
  | .inrE => "INR E"
  | .dcrE => "DCR E"
  | .mviE n => "MVI E," ++ asmByte n
  | .rar => "RAR"
  | .illegal20h => "(illegal 20h)"
  | .lxiH w => "LXI H," ++ asmWord w
  | .shld w => "SHLD " ++ asmWord w
  | .inxH => "INX H"
  | .inrH => "INR H"
  | .dcrH => "DCR H"
  | .mviH n => "MVI H," ++ asmByte n
  | .daa => "DAA"
  | .illegal28h => "(illegal 28h)"
  | .dadH => "DAD H"
  | .lhld w => "LHLD " ++ asmWord w
  | .dcxH => "DCX H"
  | .inrL => "INR L"
  | .dcrL => "DCR L"
  | .mviL n => "MVI L," ++ asmByte n
  | .cma => "CMA"
  | .illegal30h => "(illegal 30h)"
  | .lxiSP w => "LXI SP," ++ asmWord w
  | .sta w => "STA " ++ asmWord w
  | .inxSP => "INX SP"
  | .inrM => "INR M"
  | .dcrM => "DCR M"
  | .mviM n => "MVI M," ++ asmByte n
  | .stc => "STC"
  | .illegal38h => "(illegal 38h)"
  | .dadSP => "DAD SP"
  | .lda w => "LDA " ++ asmWord w
  | .dcxSP => "DCX SP"
  | .inrA => "INR A"
  | .dcrA => "DCR A"
  | .mviA n => "MVI A," ++ asmByte n
  | .cmc => "CMC"
  | .movBB => "MOV B,B"
  | .movBC => "MOV B,C"
  | .movBD => "MOV B,D"
  | .movBE => "MOV B,E"
  | .movBH => "MOV B,H"
  | .movBL => "MOV B,L"
  | .movBM => "MOV B,M"
  | .movBA => "MOV B,A"
  | .movCB => "MOV C,B"
  | .movCC => "MOV C,C"
  | .movCD => "MOV C,D"
  | .movCE => "MOV C,E"
  | .movCH => "MOV C,H"
  | .movCL => "MOV C,L"
  | .movCM => "MOV C,M"
  | .movCA => "MOV C,A"
  | .movDB => "MOV D,B"
  | .movDC => "MOV D,C"
  | .movDD => "MOV D,D"
  | .movDE => "MOV D,E"
  | .movDH => "MOV D,H"
  | .movDL => "MOV D,L"
  | .movDM => "MOV D,M"
  | .movDA => "MOV D,A"
  | .movEB => "MOV E,B"
  | .movEC => "MOV E,C"
  | .movED => "MOV E,D"
  | .movEE => "MOV E,E"
  | .movEH => "MOV E,H"
  | .movEL => "MOV E,L"
  | .movEM => "MOV E,M"
  | .movEA => "MOV E,A"
  | .movHB => "MOV H,B"
  | .movHC => "MOV H,C"
  | .movHD => "MOV H,D"
  | .movHE => "MOV H,E"
  | .movHH => "MOV H,H"
  | .movHL => "MOV H,L"
  | .movHM => "MOV H,M"
  | .movHA => "MOV H,A"
  | .movLB => "MOV L,B"
  | .movLC => "MOV L,C"
  | .movLD => "MOV L,D"
  | .movLE => "MOV L,E"
  | .movLH => "MOV L,H"
  | .movLL => "MOV L,L"
  | .movLM => "MOV L,M"
  | .movLA => "MOV L,A"
  | .movMB => "MOV M,B"
  | .movMC => "MOV M,C"
  | .movMD => "MOV M,D"
  | .movME => "MOV M,E"
  | .movMH => "MOV M,H"
  | .movML => "MOV M,L"
  | .hlt => "HLT"
  | .movMA => "MOV M,A"
  | .movAB => "MOV A,B"
  | .movAC => "MOV A,C"
  | .movAD => "MOV A,D"
  | .movAE => "MOV A,E"
  | .movAH => "MOV A,H"
  | .movAL => "MOV A,L"
  | .movAM => "MOV A,M"
  | .movAA => "MOV A,A"
  | .addB => "ADD B"
  | .addC => "ADD C"
  | .addD => "ADD D"
  | .addE => "ADD E"
  | .addH => "ADD H"
  | .addL => "ADD L"
  | .addM => "ADD M"
  | .addA => "ADD A"
  | .adcB => "ADC B"
  | .adcC => "ADC C"
  | .adcD => "ADC D"
  | .adcE => "ADC E"
  | .adcH => "ADC H"
  | .adcL => "ADC L"
  | .adcM => "ADC M"
  | .adcA => "ADC A"
  | .subB => "SUB B"
  | .subC => "SUB C"
  | .subD => "SUB D"
  | .subE => "SUB E"
  | .subH => "SUB H"
  | .subL => "SUB L"
  | .subM => "SUB M"
  | .subA => "SUB A"
  | .sbbB => "SBB B"
  | .sbbC => "SBB C"
  | .sbbD => "SBB D"
  | .sbbE => "SBB E"
  | .sbbH => "SBB H"
  | .sbbL => "SBB L"
  | .sbbM => "SBB M"
  | .sbbA => "SBB A"
  | .anaB => "ANA B"
  | .anaC => "ANA C"
  | .anaD => "ANA D"
  | .anaE => "ANA E"
  | .anaH => "ANA H"
  | .anaL => "ANA L"
  | .anaM => "ANA M"
  | .anaA => "ANA A"
  | .xraB => "XRA B"
  | .xraC => "XRA C"
  | .xraD => "XRA D"
  | .xraE => "XRA E"
  | .xraH => "XRA H"
  | .xraL => "XRA L"
  | .xraM => "XRA M"
  | .xraA => "XRA A"
  | .oraB => "ORA B"
  | .oraC => "ORA C"
  | .oraD => "ORA D"
  | .oraE => "ORA E"
  | .oraH => "ORA H"
  | .oraL => "ORA L"
  | .oraM => "ORA M"
  | .oraA => "ORA A"
  | .cmpB => "CMP B"
  | .cmpC => "CMP C"
  | .cmpD => "CMP D"
  | .cmpE => "CMP E"
  | .cmpH => "CMP H"
  | .cmpL => "CMP L"
  | .cmpM => "CMP M"
  | .cmpA => "CMP A"
  | .rnz => "RNZ"
  | .popB => "POP B"
  | .jnz w => "JNZ " ++ asmWord w
  | .jmp w => "JMP " ++ asmWord w
  | .cnz w => "CNZ " ++ asmWord w
  | .pushB => "PUSH B"
  | .adi n => "ADI " ++ asmByte n
  | .rst0 => "RST 0"
  | .rz => "RZ"
  | .ret => "RET"
  | .jz w => "JZ " ++ asmWord w
  | .illegalCBh _ => "(illegal CBh)"
  | .cz w => "CZ " ++ asmWord w
  | .call w => "CALL " ++ asmWord w
  | .aci n => "ACI " ++ asmByte n
  | .rst1 => "RST 1"
  | .rnc => "RNC"
  | .popD => "POP D"
  | .jnc w => "JNC " ++ asmWord w
  | .out n => "OUT " ++ asmByte n
  | .cnc w => "CNC " ++ asmWord w
  | .pushD => "PUSH D"
  | .sui n => "SUI " ++ asmByte n
  | .rst2 => "RST 2"
  | .rc => "RC"
  | .illegalD9h => "(illegal D9h)"
  | .jc w => "JC " ++ asmWord w
  | .inp n => "IN " ++ asmByte n
  | .cc w => "CC " ++ asmWord w
  | .illegalDDh _ => "(illegal DDh)"
  | .sbi n => "SBI " ++ asmByte n
  | .rst3 => "RST 3"
  | .rpo => "RPO"
  | .popH => "POP H"
  | .jpo w => "JPO " ++ asmWord w
  | .xthl => "XTHL"
  | .cpo w => "CPO " ++ asmWord w
  | .pushH => "PUSH H"
  | .ani n => "ANI " ++ asmByte n
  | .rst4 => "RST 4"
  | .rpe => "RPE"
  | .pchl => "PCHL"
  | .jpe w => "JPE " ++ asmWord w
  | .xchg => "XCHG"
  | .cpe w => "CPE " ++ asmWord w
  | .illegalEDh _ => "(illegal EDh)"
  | .xri n => "XRI " ++ asmByte n
  | .rst5 => "RST 5"
  | .rp => "RP"
  | .popPSW => "POP PSW"
  | .jp w => "JP " ++ asmWord w
  | .di => "DI"
  | .cp w => "CP " ++ asmWord w
  | .pushPSW => "PUSH PSW"
  | .ori n => "ORI " ++ asmByte n
  | .rst6 => "RST 6"
  | .rm => "RM"
  | .sphl => "SPHL"
  | .jm w => "JM " ++ asmWord w
  | .ei => "EI"
  | .cm w => "CM " ++ asmWord w
  | .illegalFDh _ => "(illegal FDh)"
  | .cpi n => "CPI " ++ asmByte n
  | .rst7 => "RST 7"

end Sys2Proof
end

