-- ==== Sys2Proof/Tests/Slice0.lean ====
section
/-! SUPPORT. Tests. Expected values come from spec/95_test_vectors.md (the vector or section is named in each comment) or
from the rule named; the last part shows, for every obligation with hypotheses, a state that meets them. -/

namespace Sys2Proof.Tests

open Sys2Proof Sys2Proof.Machine

/-- The reset state with bytes in memory from physical address 0 up, as the host's loader places them. -/
def rom (bytes : List Byte) : State := { State.reset with mem := Memory.load [] 0 bytes }

/-- A byte placed in memory by the host. -/
def poke (a : Word) (v : Byte) (s : State) : State := s.placeByte a v

/-- A property of the next state of one step. -/
def after (s : State) (p : State → Bool) : Bool :=
  match step s with
  | .next t => p t
  | .fault _ => false
  | .refused _ => false

/-- A property of the next state of an instruction's meaning. -/
def execAfter (i : Instr) (s : State) (p : State → Bool) : Bool :=
  match exec i s with
  | .next t => p t
  | .fault _ => false
  | .refused _ => false

/-- A call of run_frame ended its frame. -/
def frameEnds : FrameResult → Bool
  | .frame _ => true
  | .faulted _ _ _ _ => false
  | .unfinished _ => false

/-- A call of run_frame ended by a fault. -/
def frameFaults : FrameResult → Bool
  | .frame _ => false
  | .faulted _ _ _ _ => true
  | .unfinished _ => false

/-- A and F in, A and F out, of the instruction at 0x0000, with B and the cost checked. -/
def aluStep (bytes : List Byte) (a b f : Byte) (cost : Nat) (a' f' : Byte) : Bool :=
  after { rom bytes with a := a, b := b, flags := Flags.ofByte f } fun t =>
    t.a == a' && t.flags.toByte == f' && t.b == b && t.cyc == cost && t.pc == BitVec.ofNat 16 bytes.length

/-! ## WellFormed: the twelve illegal rows are ill-formed terms, and are refused by name (30_encoding.md R109) -/

/-- R109 -/
theorem test_wellFormed_refuses_illegal08h : ¬ (Instr.illegal08h).WellFormed := by decide

/-- R109 -/
theorem test_wellFormed_refuses_illegal10h : ¬ (Instr.illegal10h).WellFormed := by decide

/-- R109 -/
theorem test_wellFormed_refuses_illegal18h : ¬ (Instr.illegal18h).WellFormed := by decide

/-- R109 -/
theorem test_wellFormed_refuses_illegal20h : ¬ (Instr.illegal20h).WellFormed := by decide

/-- R109 -/
theorem test_wellFormed_refuses_illegal28h : ¬ (Instr.illegal28h).WellFormed := by decide

/-- R109 -/
theorem test_wellFormed_refuses_illegal30h : ¬ (Instr.illegal30h).WellFormed := by decide

/-- R109 -/
theorem test_wellFormed_refuses_illegal38h : ¬ (Instr.illegal38h).WellFormed := by decide

/-- R109 -/
theorem test_wellFormed_refuses_illegalCBh : ¬ (Instr.illegalCBh 0x1234).WellFormed := by decide

/-- R109 -/
theorem test_wellFormed_refuses_illegalD9h : ¬ (Instr.illegalD9h).WellFormed := by decide

/-- R109 -/
theorem test_wellFormed_refuses_illegalDDh : ¬ (Instr.illegalDDh 0).WellFormed := by decide

/-- R109 -/
theorem test_wellFormed_refuses_illegalEDh : ¬ (Instr.illegalEDh 0xFFFF).WellFormed := by decide

/-- R109 -/
theorem test_wellFormed_refuses_illegalFDh : ¬ (Instr.illegalFDh 0).WellFormed := by decide

/-- R107, R108 -/
theorem test_wellFormed_accepts_documented : (Instr.lxiB 0x1234).WellFormed ∧ Instr.hlt.WellFormed := by decide

/-! ## Decoding (section 2.1: the bits column, written out) -/

/-- section 2.1 -/
theorem test_decode_movCB : (decode [0b01001000]).toOption = some (.movCB, []) := by decide

/-- section 2.1 -/
theorem test_decode_movAM : (decode [0b01111110]).toOption = some (.movAM, []) := by decide

/-- section 2.1 -/
theorem test_decode_movMA : (decode [0b01110111]).toOption = some (.movMA, []) := by decide

/-- section 2.1 -/
theorem test_decode_hlt : (decode [0b01110110]).toOption = some (.hlt, []) := by decide

/-- section 2.1 -/
theorem test_decode_mviA : (decode [0b00111110, 0x42]).toOption = some (.mviA 0x42, []) := by decide

/-- section 2.1 -/
theorem test_decode_lxiSP : (decode [0b00110001, 0x00, 0x24]).toOption = some (.lxiSP 0x2400, []) := by decide

/-- section 2.1 -/
theorem test_decode_addM : (decode [0b10000110]).toOption = some (.addM, []) := by decide

/-- section 2.1 -/
theorem test_decode_cmpA : (decode [0b10111111]).toOption = some (.cmpA, []) := by decide

/-- section 2.1 -/
theorem test_decode_inrM : (decode [0b00110100]).toOption = some (.inrM, []) := by decide

/-- section 2.1 -/
theorem test_decode_dadSP : (decode [0b00111001]).toOption = some (.dadSP, []) := by decide

/-- section 2.1 -/
theorem test_decode_jnz : (decode [0b11000010, 0x00, 0x02]).toOption = some (.jnz 0x0200, []) := by decide

/-- section 2.1 -/
theorem test_decode_cm : (decode [0b11111100, 0x34, 0x12]).toOption = some (.cm 0x1234, []) := by decide

/-- section 2.1 -/
theorem test_decode_rpe : (decode [0b11101000]).toOption = some (.rpe, []) := by decide

/-- section 2.1 -/
theorem test_decode_rst2 : (decode [0b11010111]).toOption = some (.rst2, []) := by decide

/-- section 2.1 -/
theorem test_decode_pushPSW : (decode [0b11110101]).toOption = some (.pushPSW, []) := by decide

/-- section 2.1 -/
theorem test_decode_popH : (decode [0b11100001]).toOption = some (.popH, []) := by decide

/-- section 2.1 -/
theorem test_decode_in : (decode [0b11011011, 0x03]).toOption = some (.inp 3, []) := by decide

/-- section 2.1 -/
theorem test_decode_out : (decode [0b11010011, 0x04]).toOption = some (.out 4, []) := by decide

/-- section 2.1 -/
theorem test_decode_illegal : (decode [0b00001000]).toOption = some (.illegal08h, []) := by decide

/-- The encoding column of spec/opcode_table.json, opcodes 0x00 to 0x0F, followed by the bytes 34 12 -/
theorem test_decode_row_0 :
    [0b00000000, 0b00000001, 0b00000010, 0b00000011, 0b00000100, 0b00000101, 0b00000110, 0b00000111,
      0b00001000, 0b00001001, 0b00001010, 0b00001011, 0b00001100, 0b00001101, 0b00001110, 0b00001111].map
      (fun op : Byte => decodeBytes op 0x34 0x12) =
    [.nop, .lxiB 0x1234, .staxB, .inxB, .inrB, .dcrB, .mviB 0x34, .rlc, .illegal08h, .dadB, .ldaxB,
      .dcxB, .inrC, .dcrC, .mviC 0x34, .rrc] := by decide

/-- The encoding column of spec/opcode_table.json, opcodes 0x10 to 0x1F, followed by the bytes 34 12 -/
theorem test_decode_row_1 :
    [0b00010000, 0b00010001, 0b00010010, 0b00010011, 0b00010100, 0b00010101, 0b00010110, 0b00010111,
      0b00011000, 0b00011001, 0b00011010, 0b00011011, 0b00011100, 0b00011101, 0b00011110, 0b00011111].map
      (fun op : Byte => decodeBytes op 0x34 0x12) =
    [.illegal10h, .lxiD 0x1234, .staxD, .inxD, .inrD, .dcrD, .mviD 0x34, .ral, .illegal18h, .dadD,
      .ldaxD, .dcxD, .inrE, .dcrE, .mviE 0x34, .rar] := by decide

/-- The encoding column of spec/opcode_table.json, opcodes 0x20 to 0x2F, followed by the bytes 34 12 -/
theorem test_decode_row_2 :
    [0b00100000, 0b00100001, 0b00100010, 0b00100011, 0b00100100, 0b00100101, 0b00100110, 0b00100111,
      0b00101000, 0b00101001, 0b00101010, 0b00101011, 0b00101100, 0b00101101, 0b00101110, 0b00101111].map
      (fun op : Byte => decodeBytes op 0x34 0x12) =
    [.illegal20h, .lxiH 0x1234, .shld 0x1234, .inxH, .inrH, .dcrH, .mviH 0x34, .daa, .illegal28h, .dadH,
      .lhld 0x1234, .dcxH, .inrL, .dcrL, .mviL 0x34, .cma] := by decide

/-- The encoding column of spec/opcode_table.json, opcodes 0x30 to 0x3F, followed by the bytes 34 12 -/
theorem test_decode_row_3 :
    [0b00110000, 0b00110001, 0b00110010, 0b00110011, 0b00110100, 0b00110101, 0b00110110, 0b00110111,
      0b00111000, 0b00111001, 0b00111010, 0b00111011, 0b00111100, 0b00111101, 0b00111110, 0b00111111].map
      (fun op : Byte => decodeBytes op 0x34 0x12) =
    [.illegal30h, .lxiSP 0x1234, .sta 0x1234, .inxSP, .inrM, .dcrM, .mviM 0x34, .stc, .illegal38h,
      .dadSP, .lda 0x1234, .dcxSP, .inrA, .dcrA, .mviA 0x34, .cmc] := by decide

/-- The encoding column of spec/opcode_table.json, opcodes 0x40 to 0x4F, followed by the bytes 34 12 -/
theorem test_decode_row_4 :
    [0b01000000, 0b01000001, 0b01000010, 0b01000011, 0b01000100, 0b01000101, 0b01000110, 0b01000111,
      0b01001000, 0b01001001, 0b01001010, 0b01001011, 0b01001100, 0b01001101, 0b01001110, 0b01001111].map
      (fun op : Byte => decodeBytes op 0x34 0x12) =
    [.movBB, .movBC, .movBD, .movBE, .movBH, .movBL, .movBM, .movBA, .movCB, .movCC, .movCD, .movCE,
      .movCH, .movCL, .movCM, .movCA] := by decide

/-- The encoding column of spec/opcode_table.json, opcodes 0x50 to 0x5F, followed by the bytes 34 12 -/
theorem test_decode_row_5 :
    [0b01010000, 0b01010001, 0b01010010, 0b01010011, 0b01010100, 0b01010101, 0b01010110, 0b01010111,
      0b01011000, 0b01011001, 0b01011010, 0b01011011, 0b01011100, 0b01011101, 0b01011110, 0b01011111].map
      (fun op : Byte => decodeBytes op 0x34 0x12) =
    [.movDB, .movDC, .movDD, .movDE, .movDH, .movDL, .movDM, .movDA, .movEB, .movEC, .movED, .movEE,
      .movEH, .movEL, .movEM, .movEA] := by decide

/-- The encoding column of spec/opcode_table.json, opcodes 0x60 to 0x6F, followed by the bytes 34 12 -/
theorem test_decode_row_6 :
    [0b01100000, 0b01100001, 0b01100010, 0b01100011, 0b01100100, 0b01100101, 0b01100110, 0b01100111,
      0b01101000, 0b01101001, 0b01101010, 0b01101011, 0b01101100, 0b01101101, 0b01101110, 0b01101111].map
      (fun op : Byte => decodeBytes op 0x34 0x12) =
    [.movHB, .movHC, .movHD, .movHE, .movHH, .movHL, .movHM, .movHA, .movLB, .movLC, .movLD, .movLE,
      .movLH, .movLL, .movLM, .movLA] := by decide

/-- The encoding column of spec/opcode_table.json, opcodes 0x70 to 0x7F, followed by the bytes 34 12 -/
theorem test_decode_row_7 :
    [0b01110000, 0b01110001, 0b01110010, 0b01110011, 0b01110100, 0b01110101, 0b01110110, 0b01110111,
      0b01111000, 0b01111001, 0b01111010, 0b01111011, 0b01111100, 0b01111101, 0b01111110, 0b01111111].map
      (fun op : Byte => decodeBytes op 0x34 0x12) =
    [.movMB, .movMC, .movMD, .movME, .movMH, .movML, .hlt, .movMA, .movAB, .movAC, .movAD, .movAE,
      .movAH, .movAL, .movAM, .movAA] := by decide

/-- The encoding column of spec/opcode_table.json, opcodes 0x80 to 0x8F, followed by the bytes 34 12 -/
theorem test_decode_row_8 :
    [0b10000000, 0b10000001, 0b10000010, 0b10000011, 0b10000100, 0b10000101, 0b10000110, 0b10000111,
      0b10001000, 0b10001001, 0b10001010, 0b10001011, 0b10001100, 0b10001101, 0b10001110, 0b10001111].map
      (fun op : Byte => decodeBytes op 0x34 0x12) =
    [.addB, .addC, .addD, .addE, .addH, .addL, .addM, .addA, .adcB, .adcC, .adcD, .adcE, .adcH, .adcL,
      .adcM, .adcA] := by decide

/-- The encoding column of spec/opcode_table.json, opcodes 0x90 to 0x9F, followed by the bytes 34 12 -/
theorem test_decode_row_9 :
    [0b10010000, 0b10010001, 0b10010010, 0b10010011, 0b10010100, 0b10010101, 0b10010110, 0b10010111,
      0b10011000, 0b10011001, 0b10011010, 0b10011011, 0b10011100, 0b10011101, 0b10011110, 0b10011111].map
      (fun op : Byte => decodeBytes op 0x34 0x12) =
    [.subB, .subC, .subD, .subE, .subH, .subL, .subM, .subA, .sbbB, .sbbC, .sbbD, .sbbE, .sbbH, .sbbL,
      .sbbM, .sbbA] := by decide

/-- The encoding column of spec/opcode_table.json, opcodes 0xA0 to 0xAF, followed by the bytes 34 12 -/
theorem test_decode_row_A :
    [0b10100000, 0b10100001, 0b10100010, 0b10100011, 0b10100100, 0b10100101, 0b10100110, 0b10100111,
      0b10101000, 0b10101001, 0b10101010, 0b10101011, 0b10101100, 0b10101101, 0b10101110, 0b10101111].map
      (fun op : Byte => decodeBytes op 0x34 0x12) =
    [.anaB, .anaC, .anaD, .anaE, .anaH, .anaL, .anaM, .anaA, .xraB, .xraC, .xraD, .xraE, .xraH, .xraL,
      .xraM, .xraA] := by decide

/-- The encoding column of spec/opcode_table.json, opcodes 0xB0 to 0xBF, followed by the bytes 34 12 -/
theorem test_decode_row_B :
    [0b10110000, 0b10110001, 0b10110010, 0b10110011, 0b10110100, 0b10110101, 0b10110110, 0b10110111,
      0b10111000, 0b10111001, 0b10111010, 0b10111011, 0b10111100, 0b10111101, 0b10111110, 0b10111111].map
      (fun op : Byte => decodeBytes op 0x34 0x12) =
    [.oraB, .oraC, .oraD, .oraE, .oraH, .oraL, .oraM, .oraA, .cmpB, .cmpC, .cmpD, .cmpE, .cmpH, .cmpL,
      .cmpM, .cmpA] := by decide

/-- The encoding column of spec/opcode_table.json, opcodes 0xC0 to 0xCF, followed by the bytes 34 12 -/
theorem test_decode_row_C :
    [0b11000000, 0b11000001, 0b11000010, 0b11000011, 0b11000100, 0b11000101, 0b11000110, 0b11000111,
      0b11001000, 0b11001001, 0b11001010, 0b11001011, 0b11001100, 0b11001101, 0b11001110, 0b11001111].map
      (fun op : Byte => decodeBytes op 0x34 0x12) =
    [.rnz, .popB, .jnz 0x1234, .jmp 0x1234, .cnz 0x1234, .pushB, .adi 0x34, .rst0, .rz, .ret, .jz 0x1234,
      .illegalCBh 0x1234, .cz 0x1234, .call 0x1234, .aci 0x34, .rst1] := by decide

/-- The encoding column of spec/opcode_table.json, opcodes 0xD0 to 0xDF, followed by the bytes 34 12 -/
theorem test_decode_row_D :
    [0b11010000, 0b11010001, 0b11010010, 0b11010011, 0b11010100, 0b11010101, 0b11010110, 0b11010111,
      0b11011000, 0b11011001, 0b11011010, 0b11011011, 0b11011100, 0b11011101, 0b11011110, 0b11011111].map
      (fun op : Byte => decodeBytes op 0x34 0x12) =
    [.rnc, .popD, .jnc 0x1234, .out 0x34, .cnc 0x1234, .pushD, .sui 0x34, .rst2, .rc, .illegalD9h, .jc
      0x1234, .inp 0x34, .cc 0x1234, .illegalDDh 0x1234, .sbi 0x34, .rst3] := by decide

/-- The encoding column of spec/opcode_table.json, opcodes 0xE0 to 0xEF, followed by the bytes 34 12 -/
theorem test_decode_row_E :
    [0b11100000, 0b11100001, 0b11100010, 0b11100011, 0b11100100, 0b11100101, 0b11100110, 0b11100111,
      0b11101000, 0b11101001, 0b11101010, 0b11101011, 0b11101100, 0b11101101, 0b11101110, 0b11101111].map
      (fun op : Byte => decodeBytes op 0x34 0x12) =
    [.rpo, .popH, .jpo 0x1234, .xthl, .cpo 0x1234, .pushH, .ani 0x34, .rst4, .rpe, .pchl, .jpe 0x1234,
      .xchg, .cpe 0x1234, .illegalEDh 0x1234, .xri 0x34, .rst5] := by decide

/-- The encoding column of spec/opcode_table.json, opcodes 0xF0 to 0xFF, followed by the bytes 34 12 -/
theorem test_decode_row_F :
    [0b11110000, 0b11110001, 0b11110010, 0b11110011, 0b11110100, 0b11110101, 0b11110110, 0b11110111,
      0b11111000, 0b11111001, 0b11111010, 0b11111011, 0b11111100, 0b11111101, 0b11111110, 0b11111111].map
      (fun op : Byte => decodeBytes op 0x34 0x12) =
    [.rp, .popPSW, .jp 0x1234, .di, .cp 0x1234, .pushPSW, .ori 0x34, .rst6, .rm, .sphl, .jm 0x1234, .ei,
      .cm 0x1234, .illegalFDh 0x1234, .cpi 0x34, .rst7] := by decide

/-- R100: an instruction has all its bytes -/
theorem test_decode_refuses_missing_bytes : decode [] = .error .empty ∧ decode [0xC3, 0x00] = .error (.truncated 0xC3) ∧ decode [0x3E] = .error (.truncated 0x3E) := by exact ⟨rfl, rfl, rfl⟩

/-- spec/opcode_table.json, bytes in memory order -/
theorem test_tableWord_decodes : decodeTableWord 24 0x123431 = some (.lxiSP 0x1234) ∧ decodeTableWord 8 0x76 = some .hlt ∧ decodeTableWord 16 0x03DB = some (.inp 3) := by decide

/-- section 2.1: MVI A,42h -/
theorem test_tableWord_runs_first : after (State.reset.withFetchWord 16 0x423E) (fun t => t.a == 0x42 && t.pc == 2 && t.cyc == 7) = true := by decide

/-- 30_encoding.md R114, programs P1 and P3 -/
theorem test_assembly : (Instr.mviA 0xFF).assembly = "MVI A,0FFh" ∧ (Instr.lxiSP 0x2400).assembly = "LXI SP,2400h" ∧ (Instr.jnz 0x0200).assembly = "JNZ 0200h" ∧ Instr.movCB.assembly = "MOV C,B" := by decide

/-! ## 8-bit arithmetic, logical and compare (section 2.2) -/

/-- section 2.2, the twelve rows of ADD B -/
theorem test_addB_table :
    (aluStep [0x80] 0x00 0x00 0x02 4 0x00 0x46 &&
     aluStep [0x80] 0xFF 0x01 0x02 4 0x00 0x57 &&
     aluStep [0x80] 0x7F 0x01 0x02 4 0x80 0x92 &&
     aluStep [0x80] 0x0F 0x01 0x02 4 0x10 0x12 &&
     aluStep [0x80] 0x10 0x01 0x02 4 0x11 0x06 &&
     aluStep [0x80] 0x05 0x07 0x02 4 0x0C 0x06 &&
     aluStep [0x80] 0x3A 0x3A 0x03 4 0x74 0x16 &&
     aluStep [0x80] 0x80 0x80 0x03 4 0x00 0x47 &&
     aluStep [0x80] 0x0C 0x0A 0x02 4 0x16 0x12 &&
     aluStep [0x80] 0xF0 0x0F 0x03 4 0xFF 0x86 &&
     aluStep [0x80] 0x00 0x01 0x03 4 0x01 0x02 &&
     aluStep [0x80] 0xFF 0xFF 0x03 4 0xFE 0x93) = true := by decide

/-- section 2.2, the twelve rows of ADC B -/
theorem test_adcB_table :
    (aluStep [0x88] 0x00 0x00 0x02 4 0x00 0x46 &&
     aluStep [0x88] 0xFF 0x01 0x02 4 0x00 0x57 &&
     aluStep [0x88] 0x7F 0x01 0x02 4 0x80 0x92 &&
     aluStep [0x88] 0x0F 0x01 0x02 4 0x10 0x12 &&
     aluStep [0x88] 0x10 0x01 0x02 4 0x11 0x06 &&
     aluStep [0x88] 0x05 0x07 0x02 4 0x0C 0x06 &&
     aluStep [0x88] 0x3A 0x3A 0x03 4 0x75 0x12 &&
     aluStep [0x88] 0x80 0x80 0x03 4 0x01 0x03 &&
     aluStep [0x88] 0x0C 0x0A 0x02 4 0x16 0x12 &&
     aluStep [0x88] 0xF0 0x0F 0x03 4 0x00 0x57 &&
     aluStep [0x88] 0x00 0x01 0x03 4 0x02 0x02 &&
     aluStep [0x88] 0xFF 0xFF 0x03 4 0xFF 0x97) = true := by decide

/-- section 2.2, the twelve rows of SUB B -/
theorem test_subB_table :
    (aluStep [0x90] 0x00 0x00 0x02 4 0x00 0x56 &&
     aluStep [0x90] 0xFF 0x01 0x02 4 0xFE 0x92 &&
     aluStep [0x90] 0x7F 0x01 0x02 4 0x7E 0x16 &&
     aluStep [0x90] 0x0F 0x01 0x02 4 0x0E 0x12 &&
     aluStep [0x90] 0x10 0x01 0x02 4 0x0F 0x06 &&
     aluStep [0x90] 0x05 0x07 0x02 4 0xFE 0x83 &&
     aluStep [0x90] 0x3A 0x3A 0x03 4 0x00 0x56 &&
     aluStep [0x90] 0x80 0x80 0x03 4 0x00 0x56 &&
     aluStep [0x90] 0x0C 0x0A 0x02 4 0x02 0x12 &&
     aluStep [0x90] 0xF0 0x0F 0x03 4 0xE1 0x86 &&
     aluStep [0x90] 0x00 0x01 0x03 4 0xFF 0x87 &&
     aluStep [0x90] 0xFF 0xFF 0x03 4 0x00 0x56) = true := by decide

/-- section 2.2, the twelve rows of SBB B -/
theorem test_sbbB_table :
    (aluStep [0x98] 0x00 0x00 0x02 4 0x00 0x56 &&
     aluStep [0x98] 0xFF 0x01 0x02 4 0xFE 0x92 &&
     aluStep [0x98] 0x7F 0x01 0x02 4 0x7E 0x16 &&
     aluStep [0x98] 0x0F 0x01 0x02 4 0x0E 0x12 &&
     aluStep [0x98] 0x10 0x01 0x02 4 0x0F 0x06 &&
     aluStep [0x98] 0x05 0x07 0x02 4 0xFE 0x83 &&
     aluStep [0x98] 0x3A 0x3A 0x03 4 0xFF 0x87 &&
     aluStep [0x98] 0x80 0x80 0x03 4 0xFF 0x87 &&
     aluStep [0x98] 0x0C 0x0A 0x02 4 0x02 0x12 &&
     aluStep [0x98] 0xF0 0x0F 0x03 4 0xE0 0x82 &&
     aluStep [0x98] 0x00 0x01 0x03 4 0xFE 0x83 &&
     aluStep [0x98] 0xFF 0xFF 0x03 4 0xFF 0x87) = true := by decide

/-- section 2.2, the twelve rows of ANA B -/
theorem test_anaB_table :
    (aluStep [0xA0] 0x00 0x00 0x02 4 0x00 0x46 &&
     aluStep [0xA0] 0xFF 0x01 0x02 4 0x01 0x12 &&
     aluStep [0xA0] 0x7F 0x01 0x02 4 0x01 0x12 &&
     aluStep [0xA0] 0x0F 0x01 0x02 4 0x01 0x12 &&
     aluStep [0xA0] 0x10 0x01 0x02 4 0x00 0x46 &&
     aluStep [0xA0] 0x05 0x07 0x02 4 0x05 0x06 &&
     aluStep [0xA0] 0x3A 0x3A 0x03 4 0x3A 0x16 &&
     aluStep [0xA0] 0x80 0x80 0x03 4 0x80 0x82 &&
     aluStep [0xA0] 0x0C 0x0A 0x02 4 0x08 0x12 &&
     aluStep [0xA0] 0xF0 0x0F 0x03 4 0x00 0x56 &&
     aluStep [0xA0] 0x00 0x01 0x03 4 0x00 0x46 &&
     aluStep [0xA0] 0xFF 0xFF 0x03 4 0xFF 0x96) = true := by decide

/-- section 2.2, the twelve rows of XRA B -/
theorem test_xraB_table :
    (aluStep [0xA8] 0x00 0x00 0x02 4 0x00 0x46 &&
     aluStep [0xA8] 0xFF 0x01 0x02 4 0xFE 0x82 &&
     aluStep [0xA8] 0x7F 0x01 0x02 4 0x7E 0x06 &&
     aluStep [0xA8] 0x0F 0x01 0x02 4 0x0E 0x02 &&
     aluStep [0xA8] 0x10 0x01 0x02 4 0x11 0x06 &&
     aluStep [0xA8] 0x05 0x07 0x02 4 0x02 0x02 &&
     aluStep [0xA8] 0x3A 0x3A 0x03 4 0x00 0x46 &&
     aluStep [0xA8] 0x80 0x80 0x03 4 0x00 0x46 &&
     aluStep [0xA8] 0x0C 0x0A 0x02 4 0x06 0x06 &&
     aluStep [0xA8] 0xF0 0x0F 0x03 4 0xFF 0x86 &&
     aluStep [0xA8] 0x00 0x01 0x03 4 0x01 0x02 &&
     aluStep [0xA8] 0xFF 0xFF 0x03 4 0x00 0x46) = true := by decide

/-- section 2.2, the twelve rows of ORA B -/
theorem test_oraB_table :
    (aluStep [0xB0] 0x00 0x00 0x02 4 0x00 0x46 &&
     aluStep [0xB0] 0xFF 0x01 0x02 4 0xFF 0x86 &&
     aluStep [0xB0] 0x7F 0x01 0x02 4 0x7F 0x02 &&
     aluStep [0xB0] 0x0F 0x01 0x02 4 0x0F 0x06 &&
     aluStep [0xB0] 0x10 0x01 0x02 4 0x11 0x06 &&
     aluStep [0xB0] 0x05 0x07 0x02 4 0x07 0x02 &&
     aluStep [0xB0] 0x3A 0x3A 0x03 4 0x3A 0x06 &&
     aluStep [0xB0] 0x80 0x80 0x03 4 0x80 0x82 &&
     aluStep [0xB0] 0x0C 0x0A 0x02 4 0x0E 0x02 &&
     aluStep [0xB0] 0xF0 0x0F 0x03 4 0xFF 0x86 &&
     aluStep [0xB0] 0x00 0x01 0x03 4 0x01 0x02 &&
     aluStep [0xB0] 0xFF 0xFF 0x03 4 0xFF 0x86) = true := by decide

/-- section 2.2, the twelve rows of CMP B -/
theorem test_cmpB_table :
    (aluStep [0xB8] 0x00 0x00 0x02 4 0x00 0x56 &&
     aluStep [0xB8] 0xFF 0x01 0x02 4 0xFF 0x92 &&
     aluStep [0xB8] 0x7F 0x01 0x02 4 0x7F 0x16 &&
     aluStep [0xB8] 0x0F 0x01 0x02 4 0x0F 0x12 &&
     aluStep [0xB8] 0x10 0x01 0x02 4 0x10 0x06 &&
     aluStep [0xB8] 0x05 0x07 0x02 4 0x05 0x83 &&
     aluStep [0xB8] 0x3A 0x3A 0x03 4 0x3A 0x56 &&
     aluStep [0xB8] 0x80 0x80 0x03 4 0x80 0x56 &&
     aluStep [0xB8] 0x0C 0x0A 0x02 4 0x0C 0x12 &&
     aluStep [0xB8] 0xF0 0x0F 0x03 4 0xF0 0x86 &&
     aluStep [0xB8] 0x00 0x01 0x03 4 0x00 0x87 &&
     aluStep [0xB8] 0xFF 0xFF 0x03 4 0xFF 0x56) = true := by decide

/-- section 2.2, immediate forms -/
theorem test_adi : aluStep [0xC6, 0x01] 0xFF 0 0x02 7 0x00 0x57 = true := by decide

/-- section 2.2, immediate forms -/
theorem test_aci : aluStep [0xCE, 0x00] 0xFF 0 0x03 7 0x00 0x57 = true := by decide

/-- section 2.2, immediate forms -/
theorem test_sui : aluStep [0xD6, 0x01] 0x00 0 0x02 7 0xFF 0x87 = true := by decide

/-- section 2.2, immediate forms -/
theorem test_sbi : aluStep [0xDE, 0x00] 0x00 0 0x03 7 0xFF 0x87 = true := by decide

/-- section 2.2, immediate forms -/
theorem test_ani : aluStep [0xE6, 0x01] 0x10 0 0x03 7 0x00 0x46 = true := by decide

/-- section 2.2, immediate forms -/
theorem test_xri : aluStep [0xEE, 0x0F] 0xF0 0 0x03 7 0xFF 0x86 = true := by decide

/-- section 2.2, immediate forms -/
theorem test_ori : aluStep [0xF6, 0x01] 0x7F 0 0x03 7 0x7F 0x02 = true := by decide

/-- section 2.2, immediate forms -/
theorem test_cpi_equal : aluStep [0xFE, 0x3A] 0x3A 0 0x03 7 0x3A 0x56 = true := by decide

/-- section 2.2, immediate forms -/
theorem test_cpi_below : aluStep [0xFE, 0x3B] 0x3A 0 0x02 7 0x3A 0x87 = true := by decide

/-- section 2.2, AND auxiliary-carry policies -/
theorem test_ana_policies :
    (after { rom [0xA0] with a := 0xF0, b := 0x0F, params := { Params.default with andAc := .clear } } (fun t => t.a == 0x00 && t.flags.toByte == 0x46) &&
     after { rom [0xA0] with a := 0x0C, b := 0x0A, params := { Params.default with andAc := .clear } } (fun t => t.a == 0x08 && t.flags.toByte == 0x02) &&
     after { rom [0xA0] with a := 0x0C, b := 0x0A, params := { Params.default with andAc := .set } } (fun t => t.a == 0x08 && t.flags.toByte == 0x12) &&
     after { rom [0xA0] with a := 0x10, b := 0x01, params := { Params.default with andAc := .set } } (fun t => t.a == 0x00 && t.flags.toByte == 0x56) &&
     after { rom [0xA0] with a := 0x10, b := 0x01, params := { Params.default with andAc := .i8080 } } (fun t => t.a == 0x00 && t.flags.toByte == 0x46)) = true := by decide

/-- R153, the M form costs 7 -/
theorem test_addM : after (poke 0x2000 0x01 { rom [0x86] with a := 0xFF, h := 0x20 }) (fun t => t.a == 0 && t.flags.toByte == 0x57 && t.cyc == 7) = true := by decide

/-! ## Increment, decrement, 16-bit arithmetic, decimal adjust (sections 2.3 to 2.5) -/

/-- section 2.3 -/
theorem test_inrB_table :
    (after { rom [0x04] with b := 0x00, flags := Flags.ofByte 0x03 } (fun t => t.b == 0x01 && t.flags.toByte == 0x03 && t.cyc == 5) &&
     after { rom [0x04] with b := 0x01, flags := Flags.ofByte 0x03 } (fun t => t.b == 0x02 && t.flags.toByte == 0x03 && t.cyc == 5) &&
     after { rom [0x04] with b := 0x0F, flags := Flags.ofByte 0x03 } (fun t => t.b == 0x10 && t.flags.toByte == 0x13 && t.cyc == 5) &&
     after { rom [0x04] with b := 0x10, flags := Flags.ofByte 0x03 } (fun t => t.b == 0x11 && t.flags.toByte == 0x07 && t.cyc == 5) &&
     after { rom [0x04] with b := 0x7F, flags := Flags.ofByte 0x03 } (fun t => t.b == 0x80 && t.flags.toByte == 0x93 && t.cyc == 5) &&
     after { rom [0x04] with b := 0x80, flags := Flags.ofByte 0x03 } (fun t => t.b == 0x81 && t.flags.toByte == 0x87 && t.cyc == 5) &&
     after { rom [0x04] with b := 0xFF, flags := Flags.ofByte 0x03 } (fun t => t.b == 0x00 && t.flags.toByte == 0x57 && t.cyc == 5)) = true := by decide

/-- section 2.3 -/
theorem test_dcrB_table :
    (after { rom [0x05] with b := 0x00, flags := Flags.ofByte 0x03 } (fun t => t.b == 0xFF && t.flags.toByte == 0x87 && t.cyc == 5) &&
     after { rom [0x05] with b := 0x01, flags := Flags.ofByte 0x03 } (fun t => t.b == 0x00 && t.flags.toByte == 0x57 && t.cyc == 5) &&
     after { rom [0x05] with b := 0x0F, flags := Flags.ofByte 0x03 } (fun t => t.b == 0x0E && t.flags.toByte == 0x13 && t.cyc == 5) &&
     after { rom [0x05] with b := 0x10, flags := Flags.ofByte 0x03 } (fun t => t.b == 0x0F && t.flags.toByte == 0x07 && t.cyc == 5) &&
     after { rom [0x05] with b := 0x7F, flags := Flags.ofByte 0x03 } (fun t => t.b == 0x7E && t.flags.toByte == 0x17 && t.cyc == 5) &&
     after { rom [0x05] with b := 0x80, flags := Flags.ofByte 0x03 } (fun t => t.b == 0x7F && t.flags.toByte == 0x03 && t.cyc == 5) &&
     after { rom [0x05] with b := 0xFF, flags := Flags.ofByte 0x03 } (fun t => t.b == 0xFE && t.flags.toByte == 0x93 && t.cyc == 5)) = true := by decide

/-- section 2.3, INR M with HL in ROM -/
theorem test_inrM_rom : after (poke 0x0100 0x7F { rom [0x34] with h := 0x01, flags := Flags.ofByte 0x02 }) (fun t => t.memRead 0x0100 == 0x7F && t.flags.toByte == 0x92 && t.cyc == 10) = true := by decide

/-- section 2.4 -/
theorem test_dadB :
    (after { rom [0x09] with h := 0x12, l := 0x34, b := 0x11, c := 0x11, flags := Flags.ofByte 0x02 } (fun t => t.h == 0x23 && t.l == 0x45 && t.flags.toByte == 0x02 && t.cyc == 10) &&
     after { rom [0x09] with h := 0xFF, l := 0xFF, b := 0, c := 1, flags := Flags.ofByte 0x02 } (fun t => t.h == 0x00 && t.l == 0x00 && t.flags.toByte == 0x03 && t.cyc == 10) &&
     after { rom [0x09] with h := 0x80, l := 0, b := 0x80, c := 0, flags := Flags.ofByte 0xD6 } (fun t => t.h == 0x00 && t.l == 0x00 && t.flags.toByte == 0xD7 && t.cyc == 10)) = true := by decide

/-- section 2.4 -/
theorem test_dadH : (after { rom [0x29] with h := 0x81, l := 0x02, flags := Flags.ofByte 0x02 } (fun t => t.h == 0x02 && t.l == 0x04 && t.flags.toByte == 0x03 && t.cyc == 10)) = true := by decide

/-- section 2.4 -/
theorem test_dadSP : (after { rom [0x39] with h := 0, l := 0x10, sp := 0xFFF8, flags := Flags.ofByte 0x02 } (fun t => t.h == 0x00 && t.l == 0x08 && t.flags.toByte == 0x03 && t.cyc == 10)) = true := by decide

/-- section 2.4 -/
theorem test_inxB_wraps : after { rom [0x03] with b := 0xFF, c := 0xFF, flags := Flags.ofByte 0xD7 } (fun t => t.b == 0 && t.c == 0 && t.flags.toByte == 0xD7 && t.cyc == 5) = true := by decide

/-- section 2.4 -/
theorem test_dcxSP_wraps : after { rom [0x3B] with sp := 0 } (fun t => t.sp == 0xFFFF && t.cyc == 5) = true := by decide

/-- section 2.5 -/
theorem test_daa_table :
    (aluStep [0x27] 0x9A 0 0x02 4 0x00 0x57 &&
     aluStep [0x27] 0x3C 0 0x02 4 0x42 0x16 &&
     aluStep [0x27] 0x00 0 0x13 4 0x66 0x07 &&
     aluStep [0x27] 0x99 0 0x02 4 0x99 0x86 &&
     aluStep [0x27] 0xA0 0 0x02 4 0x00 0x47 &&
     aluStep [0x27] 0x0A 0 0x02 4 0x10 0x12 &&
     aluStep [0x27] 0x9B 0 0x02 4 0x01 0x13 &&
     aluStep [0x27] 0x42 0 0x03 4 0xA2 0x83 &&
     aluStep [0x27] 0x15 0 0x12 4 0x1B 0x06 &&
     aluStep [0x27] 0x19 0 0x12 4 0x1F 0x02 &&
     aluStep [0x27] 0x00 0 0x02 4 0x00 0x46) = true := by decide

/-! ## Rotates and carry instructions (section 2.6) -/

/-- section 2.6 -/
theorem test_rlc_table :
    (aluStep [0x07] 0x81 0 0x02 4 0x03 0x03 &&
     aluStep [0x07] 0x81 0 0x03 4 0x03 0x03 &&
     aluStep [0x07] 0x00 0 0x03 4 0x00 0x02 &&
     aluStep [0x07] 0x6A 0 0xD6 4 0xD4 0xD6) = true := by decide

/-- section 2.6 -/
theorem test_rrc_table :
    (aluStep [0x0F] 0x81 0 0x02 4 0xC0 0x03 &&
     aluStep [0x0F] 0x81 0 0x03 4 0xC0 0x03 &&
     aluStep [0x0F] 0x00 0 0x03 4 0x00 0x02 &&
     aluStep [0x0F] 0x6A 0 0xD6 4 0x35 0xD6) = true := by decide

/-- section 2.6 -/
theorem test_ral_table :
    (aluStep [0x17] 0x81 0 0x02 4 0x02 0x03 &&
     aluStep [0x17] 0x81 0 0x03 4 0x03 0x03 &&
     aluStep [0x17] 0x00 0 0x03 4 0x01 0x02 &&
     aluStep [0x17] 0x6A 0 0xD6 4 0xD4 0xD6) = true := by decide

/-- section 2.6 -/
theorem test_rar_table :
    (aluStep [0x1F] 0x81 0 0x02 4 0x40 0x03 &&
     aluStep [0x1F] 0x81 0 0x03 4 0xC0 0x03 &&
     aluStep [0x1F] 0x00 0 0x03 4 0x80 0x02 &&
     aluStep [0x1F] 0x6A 0 0xD6 4 0x35 0xD6) = true := by decide

/-- section 2.6 -/
theorem test_cma_table :
    (aluStep [0x2F] 0x81 0 0x02 4 0x7E 0x02 &&
     aluStep [0x2F] 0x81 0 0x03 4 0x7E 0x03 &&
     aluStep [0x2F] 0x00 0 0x03 4 0xFF 0x03 &&
     aluStep [0x2F] 0x6A 0 0xD6 4 0x95 0xD6) = true := by decide

/-- section 2.6 -/
theorem test_stc_table :
    (aluStep [0x37] 0x81 0 0x02 4 0x81 0x03 &&
     aluStep [0x37] 0x81 0 0x03 4 0x81 0x03 &&
     aluStep [0x37] 0x00 0 0x03 4 0x00 0x03 &&
     aluStep [0x37] 0x6A 0 0xD6 4 0x6A 0xD7) = true := by decide

/-- section 2.6 -/
theorem test_cmc_table :
    (aluStep [0x3F] 0x81 0 0x02 4 0x81 0x03 &&
     aluStep [0x3F] 0x81 0 0x03 4 0x81 0x02 &&
     aluStep [0x3F] 0x00 0 0x03 4 0x00 0x02 &&
     aluStep [0x3F] 0x6A 0 0xD6 4 0x6A 0xD7) = true := by decide

/-! ## Data transfer (section 2.7) -/

/-- T1 -/
theorem test_movCB : after { rom [0x48] with b := 0x12 } (fun t => t.c == 0x12 && t.b == 0x12 && t.cyc == 5) = true := by decide

/-- T2 -/
theorem test_movAM : after (poke 0x2000 0x5A { rom [0x7E] with h := 0x20 }) (fun t => t.a == 0x5A && t.cyc == 7) = true := by decide

/-- T3 -/
theorem test_movMA_rom : after (poke 0x0100 0xC3 { rom [0x77] with h := 0x01, a := 0xFF }) (fun t => t.memRead 0x0100 == 0xC3 && t.cyc == 7) = true := by decide

/-- T4 -/
theorem test_lxiH : after (rom [0x21, 0x34, 0x12]) (fun t => t.h == 0x12 && t.l == 0x34 && t.pc == 3 && t.cyc == 10) = true := by decide

/-- T5 -/
theorem test_lda_mirror : after (poke 0x2000 0x5A (rom [0x3A, 0x00, 0x60])) (fun t => t.a == 0x5A && t.cyc == 13) = true := by decide

/-- E5 -/
theorem test_sta_mirror : after { rom [0x32, 0x00, 0x60] with a := 0x5A } (fun t => t.memRead 0x2000 == 0x5A && t.cyc == 13) = true := by decide

/-- T6 -/
theorem test_shld_rom_edge : after { rom [0x22, 0xFF, 0x1F] with h := 0xBE, l := 0xEF } (fun t => t.memRead 0x1FFF == 0 && t.memRead 0x2000 == 0xBE && t.cyc == 16) = true := by decide

/-- T7 -/
theorem test_lhld_wraps : after (poke 0x3FFF 0x34 (rom [0x2A, 0xFF, 0xFF])) (fun t => t.l == 0x34 && t.h == 0x2A && t.cyc == 16) = true := by decide

/-- T8, with four different bytes -/
theorem test_xchg : after { rom [0xEB] with d := 0x11, e := 0x12, h := 0x21, l := 0x22 } (fun t => t.d == 0x21 && t.e == 0x22 && t.h == 0x11 && t.l == 0x12 && t.cyc == 4) = true := by decide

/-- T9 -/
theorem test_ldaxD : after (poke 0x2005 0x3C { rom [0x1A] with d := 0x20, e := 0x05 }) (fun t => t.a == 0x3C && t.cyc == 7) = true := by decide

/-- T10 -/
theorem test_staxB : after { rom [0x02] with b := 0x21, a := 0x01 } (fun t => t.memRead 0x2100 == 0x01 && t.cyc == 7) = true := by decide

/-- T11 -/
theorem test_mviM : after { rom [0x36, 0x07] with h := 0x20, l := 0x01 } (fun t => t.memRead 0x2001 == 0x07 && t.cyc == 10) = true := by decide

/-- T12 -/
theorem test_movHM : after (poke 0x3FFF 0x20 { rom [0x66] with h := 0x3F, l := 0xFF }) (fun t => t.h == 0x20 && t.l == 0xFF && t.cyc == 7) = true := by decide

/-! ## Branches, calls, returns (section 2.8) -/

/-- B1 -/
theorem test_jnz_not_taken : after { rom [0xC2, 0x00, 0x02] with flags := Flags.ofByte 0x42, sp := 0x0000 } (fun t => t.pc == 0x0003 && t.sp == 0x0000 && t.cyc == 10) = true := by decide

/-- B2 -/
theorem test_jnz_taken : after { rom [0xC2, 0x00, 0x02] with flags := Flags.ofByte 0x02, sp := 0x0000 } (fun t => t.pc == 0x0200 && t.sp == 0x0000 && t.cyc == 10) = true := by decide

/-- B3 -/
theorem test_jpe_taken : after { rom [0xEA, 0x00, 0x03] with flags := Flags.ofByte 0x06, sp := 0x0000 } (fun t => t.pc == 0x0300 && t.sp == 0x0000 && t.cyc == 10) = true := by decide

/-- B4 -/
theorem test_jm_taken : after { rom [0xFA, 0x00, 0x03] with flags := Flags.ofByte 0x82, sp := 0x0000 } (fun t => t.pc == 0x0300 && t.sp == 0x0000 && t.cyc == 10) = true := by decide

/-- B5 -/
theorem test_jp_not_taken : after { rom [0xF2, 0x00, 0x03] with flags := Flags.ofByte 0x82, sp := 0x0000 } (fun t => t.pc == 0x0003 && t.sp == 0x0000 && t.cyc == 10) = true := by decide

/-- B6 -/
theorem test_cnc_taken : after { rom [0xD4, 0x50, 0x00] with flags := Flags.ofByte 0x02, sp := 0x2400 } (fun t => t.pc == 0x0050 && t.sp == 0x23FE && t.cyc == 17 && t.memRead 0x23FF == 0x00 && t.memRead 0x23FE == 0x03) = true := by decide

/-- B7 -/
theorem test_cnc_not_taken : after { rom [0xD4, 0x50, 0x00] with flags := Flags.ofByte 0x03, sp := 0x2400 } (fun t => t.pc == 0x0003 && t.sp == 0x2400 && t.cyc == 11) = true := by decide

/-- B8 -/
theorem test_rz_not_taken : after { rom [0xC8] with flags := Flags.ofByte 0x02, sp := 0x23FE } (fun t => t.pc == 0x0001 && t.sp == 0x23FE && t.cyc == 5) = true := by decide

/-- B9 -/
theorem test_rz_taken : after (poke 0x23FE 0x03 (poke 0x23FF 0x01 { rom [0xC8] with flags := Flags.ofByte 0x42, sp := 0x23FE })) (fun t => t.pc == 0x0103 && t.sp == 0x2400 && t.cyc == 11) = true := by decide

/-- B10 -/
theorem test_rst7 : after { rom [0xFF] with flags := Flags.ofByte 0x02, sp := 0x2400 } (fun t => t.pc == 0x0038 && t.sp == 0x23FE && t.cyc == 11 && t.memRead 0x23FF == 0x00 && t.memRead 0x23FE == 0x01 && !t.ie) = true := by decide

/-- B11 -/
theorem test_pchl : after { rom [0xE9] with h := 0x1A, l := 0x2B } (fun t => t.pc == 0x1A2B && t.cyc == 5) = true := by decide

/-- B12 -/
theorem test_call : after { rom [0xCD, 0x50, 0x00] with flags := Flags.ofByte 0x02, sp := 0x2400 } (fun t => t.pc == 0x0050 && t.sp == 0x23FE && t.cyc == 17 && t.memRead 0x23FF == 0x00 && t.memRead 0x23FE == 0x03) = true := by decide

/-- B12 -/
theorem test_ret : after (poke 0x23FE 0x03 { rom [0xC9] with sp := 0x23FE }) (fun t => t.pc == 0x0003 && t.sp == 0x2400 && t.cyc == 10) = true := by decide

/-- B14 -/
theorem test_jmp : after { rom [0xC3, 0xFF, 0xFF] with flags := Flags.ofByte 0x02, sp := 0x0000 } (fun t => t.pc == 0xFFFF && t.sp == 0x0000 && t.cyc == 10) = true := by decide

/-- B14 detail: operands of an instruction at 0xFFFF come from 0x0000 and 0x0001 -/
theorem test_fetch_wraps : after (poke 0xFFFF 0xC3 { rom [0x34, 0x12] with pc := 0xFFFF }) (fun t => t.pc == 0x1234) = true := by decide

/-- R202: JCC_NOT_TAKEN_CYCLES -/
theorem test_jnz_not_taken_parameter : after { rom [0xC2, 0x00, 0x02] with flags := Flags.ofByte 0x42, params := { Params.default with jccNotTakenCycles := 7 } } (fun t => t.cyc == 7) = true := by decide

/-! ## Stack and machine control (section 2.9) -/

/-- S1 -/
theorem test_pushB : after { rom [0xC5] with sp := 0x2400, b := 0x12, c := 0x34 } (fun t => t.memRead 0x23FF == 0x12 && t.memRead 0x23FE == 0x34 && t.sp == 0x23FE && t.cyc == 11) = true := by decide

/-- S2 -/
theorem test_pushPSW : after { rom [0xF5] with sp := 0x2400, flags := Flags.ofByte 0x57 } (fun t => t.memRead 0x23FF == 0x00 && t.memRead 0x23FE == 0x57 && t.sp == 0x23FE && t.cyc == 11) = true := by decide

/-- S3 -/
theorem test_pushB_into_rom : after { rom [0xC5] with sp := 0x0001, b := 0x12, c := 0x34 } (fun t => t.memRead 0x0000 == 0xC5 && t.memRead 0xFFFF == 0x34 && t.memRead 0x3FFF == 0x34 && t.sp == 0xFFFF) = true := by decide

/-- S4 -/
theorem test_popPSW : after (poke 0x23FE 0xFF (poke 0x23FF 0x80 { rom [0xF1] with sp := 0x23FE })) (fun t => t.a == 0x80 && t.flags.toByte == 0xD7 && t.sp == 0x2400 && t.cyc == 10) = true := by decide

/-- S5 -/
theorem test_popD : after (poke 0x23FE 0x34 (poke 0x23FF 0x12 { rom [0xD1] with sp := 0x23FE })) (fun t => t.d == 0x12 && t.e == 0x34 && t.sp == 0x2400 && t.cyc == 10) = true := by decide

/-- S6 -/
theorem test_popH_wraps : after (poke 0x3FFF 0x34 { rom [0xE1] with sp := 0xFFFF }) (fun t => t.l == 0x34 && t.h == 0xE1 && t.sp == 0x0001 && t.cyc == 10) = true := by decide

/-- S7 -/
theorem test_xthl : after (poke 0x23FE 0x34 (poke 0x23FF 0x12 { rom [0xE3] with sp := 0x23FE, h := 0xAB, l := 0xCD })) (fun t => t.h == 0x12 && t.l == 0x34 && t.memRead 0x23FE == 0xCD && t.memRead 0x23FF == 0xAB && t.sp == 0x23FE && t.cyc == 18) = true := by decide

/-- S8 -/
theorem test_sphl : after { rom [0xF9] with h := 0x24 } (fun t => t.sp == 0x2400 && t.cyc == 5) = true := by decide

/-- S9 -/
theorem test_ei : after (rom [0xFB]) (fun t => t.ie && t.cyc == 4) = true := by decide

/-- S10 -/
theorem test_di : after { rom [0xF3] with ie := true } (fun t => !t.ie && t.cyc == 4) = true := by decide

/-- S11 -/
theorem test_hlt : after { poke 0x0006 0x76 State.reset with pc := 0x0006 } (fun t => t.halted && t.pc == 0x0007 && t.cyc == 7) = true := by decide

/-- S11: every later step costs 7 and fetches nothing -/
theorem test_halted_step : after { rom [0x3C] with halted := true } (fun t => t.halted && t.pc == 0 && t.a == 0 && t.cyc == 7) = true := by decide

/-- S12; zero-filled memory runs NOPs (R231) -/
theorem test_nop : after State.reset (fun t => t.pc == 1 && t.cyc == 4) = true := by decide

/-! ## I/O and the shift register (section 2.10) -/

/-- P-2 -/
theorem test_in0 : after (rom [0xDB, 0x00]) (fun t => t.a == 0x0E && t.cyc == 10) = true := by decide

/-- P-1, P-3 -/
theorem test_in1 : (after (rom [0xDB, 0x01]) (fun t => t.a == 0x08) && after { rom [0xDB, 0x01] with input := ⟨0, 1, 0⟩ } (fun t => t.a == 0x09)) = true := by decide

/-- P-4, P-5 -/
theorem test_in2_in7 : (after { rom [0xDB, 0x02] with input := ⟨0, 0, 0x83⟩ } (fun t => t.a == 0x83) && after { rom [0xDB, 0x07] with a := 0x55 } (fun t => t.a == 0x00)) = true := by decide

/-- P-10 -/
theorem test_in3 : after { rom [0xDB, 0x03] with shv := 0x00FF, sha := 3 } (fun t => t.a == 0x07 && t.shv == 0x00FF && t.sha == 3 && t.cyc == 10) = true := by decide

/-- P-6 -/
theorem test_out2 : after { rom [0xD3, 0x02] with a := 0xFF } (fun t => t.sha == 7 && t.shv == 0 && t.cyc == 10) = true := by decide

/-- P-8 -/
theorem test_out4 : after { rom [0xD3, 0x04] with shv := 0xAB00, a := 0xCD } (fun t => t.shv == 0xCDAB && t.sha == 0) = true := by decide

/-- P-9 -/
theorem test_out_others : ([(3 : Byte), 5, 6, 0xFF].all fun p => after { rom [0xD3, p] with a := 0x12, shv := 0x1234, sha := 5 } (fun t => t.shv == 0x1234 && t.sha == 5 && t.pc == 2 && t.a == 0x12)) = true := by decide

/-- section 2.10, result() for every amount -/
theorem test_shift_results :
    (([0, 1, 2, 3, 4, 5, 6, 7].map fun k => ({ State.reset with shv := 0xAB00, sha := k } : State).shiftResult) == [0xAB, 0x56, 0xAC, 0x58, 0xB0, 0x60, 0xC0, 0x80] &&
     ([0, 1, 2, 3, 4, 5, 6, 7].map fun k => ({ State.reset with shv := 0x00FF, sha := k } : State).shiftResult) == [0x00, 0x01, 0x03, 0x07, 0x0F, 0x1F, 0x3F, 0x7F] &&
     ([0, 1, 2, 3, 4, 5, 6, 7].map fun k => ({ State.reset with shv := 0xFF00, sha := k } : State).shiftResult) == [0xFF, 0xFE, 0xFC, 0xF8, 0xF0, 0xE0, 0xC0, 0x80] &&
     ([0, 1, 2, 3, 4, 5, 6, 7].map fun k => ({ State.reset with shv := 0x8001, sha := k } : State).shiftResult) == [0x80, 0x00, 0x00, 0x00, 0x00, 0x00, 0x00, 0x00] &&
     ([0, 1, 2, 3, 4, 5, 6, 7].map fun k => ({ State.reset with shv := 0x1234, sha := k } : State).shiftResult) == [0x12, 0x24, 0x48, 0x91, 0x23, 0x46, 0x8D, 0x1A]) = true := by decide

/-- Some switches closed: coin, P1 start, P1 left, six bases, extra base at 1000, P2 left, no coin information. -/
def switches : Controls where
  coin := true
  p2Start := false
  p1Start := true
  p1Fire := false
  p1Left := true
  p1Right := false
  bases := 3
  tilt := false
  extraBaseAt1000 := true
  p2Fire := false
  p2Left := true
  p2Right := false
  coinInfoOff := true
  config0 := true

/-- R62, the bits of ports 0, 1 and 2 -/
theorem test_input_switches : switches.snapshot = ⟨0x21, 0x25, 0xAB⟩ := by decide

/-! ## The rasterizer (section 2.11) -/

/-- section 2.11 -/
theorem test_pixel_255_0 : pixelAddress 255 0 = 0x2400 ∧ pixelBit 255 = 0 := by decide

/-- section 2.11 -/
theorem test_pixel_248_0 : pixelAddress 248 0 = 0x2400 ∧ pixelBit 248 = 7 := by decide

/-- section 2.11 -/
theorem test_pixel_247_0 : pixelAddress 247 0 = 0x2401 ∧ pixelBit 247 = 0 := by decide

/-- section 2.11 -/
theorem test_pixel_0_0 : pixelAddress 0 0 = 0x241F ∧ pixelBit 0 = 7 := by decide

/-- section 2.11 -/
theorem test_pixel_255_1 : pixelAddress 255 1 = 0x2420 ∧ pixelBit 255 = 0 := by decide

/-- section 2.11 -/
theorem test_pixel_252_128 : pixelAddress 252 128 = 0x3400 ∧ pixelBit 252 = 3 := by decide

/-- section 2.11 -/
theorem test_pixel_7_223 : pixelAddress 7 223 = 0x3FFF ∧ pixelBit 7 = 0 := by decide

/-- section 2.11 -/
theorem test_pixel_0_223 : pixelAddress 0 223 = 0x3FFF ∧ pixelBit 0 = 7 := by decide

/-- 0xA5 at 0x2400 turns on rows 255, 253, 250 and 248 of column 0 and not row 254 (E8). -/
theorem test_pattern_A5 : ([255, 253, 250, 248, 254].map fun y =>
    (rasterize (poke 0x2400 0xA5 State.reset))[y]?.bind fun row => row[0]?) =
    [some true, some true, some true, some true, some false] := by
  simp only [List.map_cons, List.map_nil]
  rw [rasterize_pixel _ (by decide) (by decide), rasterize_pixel _ (by decide) (by decide),
    rasterize_pixel _ (by decide) (by decide), rasterize_pixel _ (by decide) (by decide),
    rasterize_pixel _ (by decide) (by decide)]
  decide

/-! ## Faults and illegal opcodes (section 2.12) -/

/-- X1 -/
theorem test_illegal_fault : after { rom [0x00, 0x08] with pc := 1, cyc := 4 } (fun t => t.status == .faulted .unimplementedOpcode 0x0001 0x08 && t.pc == 1 && t.cyc == 4) = true := by decide

/-- X2 -/
theorem test_illegal_fault_all : ([(0x10 : Byte), 0x18, 0x20, 0x28, 0x30, 0x38, 0xCB, 0xD9, 0xDD, 0xED, 0xFD].all fun op => after (rom [op, 0x34, 0x12]) (fun t => t.status == .faulted .unimplementedOpcode 0 op && t.pc == 0 && t.cyc == 0)) = true := by decide

/-- X3 -/
theorem test_alias_jmp : after { rom [0xCB, 0x34, 0x12] with params := { Params.default with undoc := .alias8080 } } (fun t => t.pc == 0x1234 && t.cyc == 10) = true := by decide

/-- X4 -/
theorem test_alias_call : after { rom [0xDD, 0x34, 0x12] with params := { Params.default with undoc := .alias8080 }, sp := 0x2400 } (fun t => t.pc == 0x1234 && t.sp == 0x23FE && t.memRead 0x23FF == 0 && t.memRead 0x23FE == 3 && t.cyc == 17) = true := by decide

/-- X5 -/
theorem test_alias_nop : after { rom [0x08] with params := { Params.default with undoc := .alias8080 } } (fun t => t.pc == 1 && t.cyc == 4 && t.status == .running) = true := by decide

/-- X6 -/
theorem test_alias_ret : after (poke 0x23FE 0x03 (poke 0x23FF 0x01 { rom [0xD9] with params := { Params.default with undoc := .alias8080 }, sp := 0x23FE })) (fun t => t.pc == 0x0103 && t.sp == 0x2400 && t.cyc == 10) = true := by decide

/-- X7: an image with missing bytes -/
theorem test_rom_mismatch : (State.reset.loadRom [[0xC3]]).status = .faulted .romLoadMismatch 0x0000 0x00 := by decide

/-- R282 -/
theorem test_faulted_has_no_step : step (State.reset.loadRom [[0xC3]]) = .fault (.romLoadMismatch 0 0) := by rfl

/-! ## Interrupt controller (section 2.13) -/

/-- I1 -/
theorem test_I1 : after { rom [0x3E, 0x00] with cyc := 16659, ie := true } (fun t => t.cyc == 16666 && t.phase == .preMid && t.ie && t.pc == 2) = true := by decide

/-- I2 -/
theorem test_I2 : after { rom [0x3E, 0x00] with cyc := 16660, ie := true, sp := 0x2400 } (fun t => t.cyc == 16667 && t.phase == .preEnd && !t.ie && t.pc == 0x0008 && t.sp == 0x23FE && t.memRead 0x23FE == 2) = true := by decide

/-- I3 -/
theorem test_I3 : after { rom [0x3E, 0x00] with cyc := 16660, sp := 0x2400 } (fun t => t.cyc == 16667 && t.phase == .preEnd && t.pc == 2 && t.sp == 0x2400) = true := by decide

/-- I4, with CALL as the step of 17 cycles -/
theorem test_I4 : after { rom [0xCD, 0x50, 0x00] with cyc := 33320, phase := .preEnd, ie := true, sp := 0x2400 } (fun t => t.cyc == 0 && t.phase == .preMid && t.pc == 0x0010 && !t.ie && t.framebuffer.isSome && t.sp == 0x23FC) = true := by decide

/-- I5 -/
theorem test_I5 : after { rom [0xFB] with cyc := 20000, phase := .preEnd } (fun t => t.cyc == 20004 && t.phase == .preEnd && t.ie && t.pc == 1) = true := by decide

/-- I6 -/
theorem test_I6 : after { State.reset with cyc := 16665, halted := true, pc := 0x0027, ie := true, sp := 0x2400 } (fun t => t.cyc == 16672 && t.pc == 0x0008 && !t.halted && t.memRead 0x23FE == 0x27 && t.memRead 0x23FF == 0) = true := by decide

/-- I7 -/
theorem test_I7 : after { State.reset with cyc := 33330, phase := .preEnd, halted := true } (fun t => t.cyc == 0 && t.phase == .preMid && t.halted && t.framebuffer.isSome) = true := by decide

/-- I8 -/
theorem test_I8 : after { State.reset with cyc := 16663, ie := true, sp := 0x2400, params := { Params.default with intAckCycles := 11 } } (fun t => t.cyc == 16678 && t.phase == .preEnd) = true := by decide

/-- the host sees this machine -/
theorem test_core_is_the_machine : (core.reset = State.reset) ∧ (core.step = step) := by exact ⟨rfl, rfl⟩

/-! ## Witnesses: states and operands that meet the hypotheses of the obligations -/

/-- MovCopiesRegister, MovLoadsRegisterFromMemory, MovStoresRegisterToMemory, MviWritesImmediate,
InrIncrementsOperand and DcrDecrementsOperand ask for registers other than M: B, the lowest code, and A, the
highest -/
theorem witness_MovCopiesRegister : RegCode.b ≠ .m ∧ RegCode.a ≠ .m := by decide

/-- ConditionalJumps, CallsPushReturnAddress and ReturnsPopProgramCounter ask for a condition that holds or one that does
not: with F = 0x02 (every flag 0) NZ, NC, PO and P hold and the others do not; with F = 0xD7 (every flag 1) the reverse. -/
theorem witness_conditions :
    (Holds (Flags.ofByte 0x02) .nz ∧ Holds (Flags.ofByte 0x02) .nc ∧ Holds (Flags.ofByte 0x02) .po ∧
      Holds (Flags.ofByte 0x02) .p ∧ ¬ Holds (Flags.ofByte 0x02) .z ∧ ¬ Holds (Flags.ofByte 0x02) .c ∧
      ¬ Holds (Flags.ofByte 0x02) .pe ∧ ¬ Holds (Flags.ofByte 0x02) .m) ∧
    (Holds (Flags.ofByte 0xD7) .z ∧ Holds (Flags.ofByte 0xD7) .c ∧ Holds (Flags.ofByte 0xD7) .pe ∧
      Holds (Flags.ofByte 0xD7) .m ∧ ¬ Holds (Flags.ofByte 0xD7) .nz ∧ ¬ Holds (Flags.ofByte 0xD7) .nc ∧
      ¬ Holds (Flags.ofByte 0xD7) .po ∧ ¬ Holds (Flags.ofByte 0xD7) .p) := by
  simp [Holds, Flags.ofByte]

/-- AndSetsResultAndFlags (inside ConjunctionOf): each policy -/
theorem witness_AndSetsResultAndFlags : Params.default.andAc = .i8080 ∧ ({ Params.default with andAc := .clear } : Params).andAc = .clear ∧ ({ Params.default with andAc := .set } : Params).andAc = .set := by exact ⟨rfl, rfl, rfl⟩

/-- InReadsPort and OutWritesPort: a port for each clause, 4 and 255 the ends of the range above 3 -/
theorem witness_InReadsPort : ([0, 1, 2, 3, 4, 255].map fun n => (BitVec.ofNat 8 n).toNat) = [0, 1, 2, 3, 4, 255] := by decide

/-- EiAndDiTakeEffectAtOnce: the counter reaches T_MID exactly -/
theorem witness_EiAndDiTakeEffectAtOnce :
    (let s := { rom [0xFB] with cyc := 16663 }
     s.status = .running ∧ s.halted = false ∧ s.memRead s.pc = 0xFB ∧ s.phase = .preMid ∧ s.params.tMid ≤ s.cyc + 4) ∧
    (let s := { rom [0xF3] with cyc := 16663, ie := true }
     s.status = .running ∧ s.halted = false ∧ s.memRead s.pc = 0xF3 ∧ s.phase = .preMid ∧ s.params.tMid ≤ s.cyc + 4) := by decide

/-- IllegalOpcodesFollowPolicy: each policy -/
theorem witness_IllegalOpcodesFollowPolicy : Params.default.undoc = .fault ∧ ({ Params.default with undoc := .alias8080 } : Params).undoc = .alias8080 := by exact ⟨rfl, rfl⟩

/-- IllegalOpcodeStepFaults -/
theorem witness_IllegalOpcodeStepFaults :
    let s := rom [0x08]
    s.status = .running ∧ s.halted = false ∧ s.params.undoc = .fault ∧
    s.memRead s.pc ∈ ([0x08, 0x10, 0x18, 0x20, 0x28, 0x30, 0x38, 0xCB, 0xD9, 0xDD, 0xED, 0xFD] : List Byte) := by decide

/-- FaultedSessionHasNoStep -/
theorem witness_FaultedSessionHasNoStep :
    (raiseUnimplementedOpcode 0x08 State.reset).status = .faulted .unimplementedOpcode 0 0x08 ∧
    (State.reset.loadRom []).status = .faulted .romLoadMismatch 0 0 ∧
    (raiseUnimplementedOpcode 0x08 State.reset).status ≠ .running := by decide

/-- StepRunsDecodedInstruction: an instruction that goes on, and one that faults; exec itself answers no fault and
no refusal -/
theorem witness_StepRunsDecodedInstruction :
    (let s := rom [0x3E, 0x42]
     s.status = .running ∧ s.halted = false ∧
     (decode [s.memRead s.pc, s.memRead (s.pc + 1), s.memRead (s.pc + 2)]).toOption = some (.mviA 0x42, [0x00]) ∧
     execAfter (.mviA 0x42) s (fun t => t.status == .running) = true) ∧
    (let s := rom [0x08]
     s.status = .running ∧ s.halted = false ∧
     (decode [s.memRead s.pc, s.memRead (s.pc + 1), s.memRead (s.pc + 2)]).toOption = some (.illegal08h, [0x00, 0x00]) ∧
     execAfter .illegal08h s (fun t => t.status != .running) = true) := by refine ⟨⟨rfl, rfl, ?_, ?_⟩, ⟨rfl, rfl, ?_, ?_⟩⟩ <;> decide

/-- HaltedCpuIdles: the counter stops one below T_MID -/
theorem witness_HaltedCpuIdles :
    let s := { State.reset with halted := true, cyc := 16659 }
    s.status = .running ∧ s.halted = true ∧ s.cyc + 7 < (if s.phase = .preMid then s.params.tMid else s.params.tEnd) := by decide

/-- ControllerEvents: a state for each clause, at the boundary values of the thresholds -/
theorem witness_ControllerEvents :
    (let s := { State.reset with cyc := 16659 }
     s.phase = .preMid ∧ s.cyc + 7 < s.params.tMid) ∧
    (let s := { State.reset with cyc := 16660 }
     s.phase = .preMid ∧ s.params.tMid ≤ s.cyc + 7 ∧ s.ie = false) ∧
    (let s := { State.reset with cyc := 16660, ie := true }
     s.phase = .preMid ∧ s.params.tMid ≤ s.cyc + 7 ∧ s.ie = true) ∧
    (let s := { State.reset with cyc := 33325, phase := .preEnd }
     s.phase = .preEnd ∧ s.cyc + 7 < s.params.tEnd) ∧
    (let s := { State.reset with cyc := 33326, phase := .preEnd }
     s.phase = .preEnd ∧ s.params.tEnd ≤ s.cyc + 7 ∧ s.ie = false) ∧
    (let s := { State.reset with cyc := 33326, phase := .preEnd, ie := true }
     s.phase = .preEnd ∧ s.params.tEnd ≤ s.cyc + 7 ∧ s.ie = true) := by decide

/-- RasterizerMapsEveryPixel: the first and the last pair (i, b), the first and the last pixel -/
theorem witness_RasterizerMapsEveryPixel : (0 < 7168 ∧ 0 < 8 ∧ 255 - (8 * (0 % 32) + 0) = 255 ∧ 0 / 32 = 0) ∧ (7167 < 7168 ∧ 7 < 8 ∧ 255 - (8 * (7167 % 32) + 7) = 0 ∧ 7167 / 32 = 223) := by decide

/-- ByteStoreReadBackThroughMirrors: the first RAM byte through a mirror, its neighbour, the last ROM byte and a
mirror of it -/
theorem witness_ByteStoreReadBackThroughMirrors :
    ((0x6000 : Word) &&& 0x3FFF = 0x2000 &&& 0x3FFF ∧ ¬ isRom 0x2000) ∧ ((0x2001 : Word) &&& 0x3FFF ≠ 0x2000 &&& 0x3FFF) ∧
    isRom 0x1FFF ∧ isRom 0x5FFF := by decide

/-- WordAccessIsLittleEndian -/
theorem witness_WordAccessIsLittleEndian : ¬ isRom 0x2000 ∧ ¬ isRom (0x2000 + 1) := by decide

/-- RomLoadIsChecked and RomIsLoadedAndNeverChanges: an image of four whole parts and its last address; one that is
not. -/
theorem witness_RomLoadIsChecked :
    ((List.replicate 4 (List.replicate 2048 (0xC3 : Byte))).map List.length = [2048, 2048, 2048, 2048] ∧ 8191 < 8192) ∧
    (([] : List (List Byte)).map List.length ≠ [2048, 2048, 2048, 2048]) := by
  refine ⟨⟨?_, by omega⟩, by simp⟩
  simp only [List.map_replicate, List.length_replicate]
  rfl

/-- StepKeepsInvariant: the reset state meets Inv, and it steps. -/
theorem witness_StepKeepsInvariant : State.reset.Inv ∧ after State.reset (fun _ => true) = true :=
  ⟨⟨by decide, by decide, by show (0 : Nat) < 16667; omega⟩, by decide⟩

/-- RomIsLoadedAndNeverChanges: a step that stores to a ROM address -/
theorem witness_RomIsLoadedAndNeverChanges : isRom 0x0000 ∧ isRom 0xC000 ∧ after { rom [0x32, 0x00, 0x00] with a := 0x5A } (fun t => t.memRead 0 == 0x32) = true := by decide

/-- InterruptEnableChangesOnlyAsStated: EI, DI, a delivery, and an instruction that is neither -/
theorem witness_InterruptEnableChangesOnlyAsStated :
    (after (rom [0xFB]) (fun t => t.ie) = true ∧ (rom [0xFB]).ie = false) ∧
    (after { rom [0xF3] with ie := true } (fun t => !t.ie) = true) ∧
    (after { rom [0x00] with ie := true, cyc := 16663 } (fun t => !t.ie && t.pc == 0x0008) = true) ∧
    ((Instr.nop ≠ .ei) ∧ (Instr.nop ≠ .di)) := by decide

/-- HaltEndsOnlyByDelivery: HLT, and a delivery to a halted CPU -/
theorem witness_HaltEndsOnlyByDelivery :
    (after (rom [0x76]) (fun t => t.halted) = true ∧ (rom [0x76]).halted = false) ∧
    (after { State.reset with halted := true, ie := true, cyc := 16660 } (fun t => !t.halted && t.pc == 0x0008) = true) := by decide

/-- ShiftRegisterChangesOnlyByOut -/
theorem witness_ShiftRegisterChangesOnlyByOut :
    (after { rom [0xD3, 0x04] with a := 1 } (fun t => t.shv != 0) = true) ∧
    (after { rom [0xD3, 0x02] with a := 1 } (fun t => t.sha != 0) = true) ∧ (3 : Byte) ≠ 2 ∧ (3 : Byte) ≠ 4 := by decide

/-- ParametersAndInputsAreFixed: a step inside a frame, and one that ends a frame with a snapshot waiting -/
theorem witness_ParametersAndInputsAreFixed :
    (after State.reset (fun t => t.phase == .preMid) = true) ∧
    (after { State.reset with phase := .preEnd, cyc := 33329, upcoming := [⟨1, 2, 3⟩] }
      (fun t => t.phase == .preMid && t.input == ⟨1, 2, 3⟩ && t.upcoming == []) = true) ∧ (0 : Byte) ≠ 3 := by decide

/-- DocumentedInstructionsNeverFault -/
theorem witness_DocumentedInstructionsNeverFault :
    Instr.nop.documented = true ∧ State.reset.status = .running ∧
    after (rom [0x08]) (fun t => t.status != .running) = true := by decide

/-- HaltedWithInterruptsDisabledIsQuiescent: a step inside a frame, and one whose 7 cycles just end it -/
theorem witness_HaltedWithInterruptsDisabledIsQuiescent :
    (State.reset.status = .running ∧ State.reset.ie = false ∧
      after { State.reset with halted := true } (fun t => t.halted && t.cyc == 7 && t.phase == .preMid) = true) ∧
    (after { State.reset with halted := true, phase := .preEnd, cyc := 33325 }
      (fun t => t.halted && t.phase == .preEnd && t.cyc == 33332) = true) ∧
    (after { State.reset with halted := true, phase := .preEnd, cyc := 33326, upcoming := [⟨1, 2, 3⟩] }
      (fun t => t.halted && !t.ie && t.phase == .preMid && t.framebuffer.isSome && t.input == ⟨1, 2, 3⟩ &&
        t.upcoming == []) = true) ∧
    (after { State.reset with halted := true, phase := .preEnd, cyc := 33326, input := ⟨1, 2, 3⟩ }
      (fun t => t.phase == .preMid && t.input == ⟨1, 2, 3⟩) = true) := by decide

/-- run_frame on a faulted session changes nothing (log entry 16), a refused ROM among them. -/
theorem test_runFrame_after_fault :
    let s := State.reset.loadRom []
    runFrame 1 ⟨1, 2, 3⟩ s = .faulted .romLoadMismatch 0x0000 0x00 s := rfl

/-- EveryFrameEndsOrFaults: reset, with the smallest fuel asked for -/
theorem witness_EveryFrameEndsOrFaults :
    State.reset.status = .running ∧ State.reset.params.ok ∧ 1 ≤ State.reset.params.jccNotTakenCycles ∧
    State.reset.params.tMid + State.reset.params.tEnd + 2 ≤ 50002 := by exact ⟨rfl, by decide, by decide, Nat.le_refl _⟩

/-- FrameHandsOutTheVideoPicture: a frame of two steps, and one that faults -/
theorem witness_FrameHandsOutTheVideoPicture :
    frameEnds (runFrame 2 ⟨0, 0, 0⟩ { State.reset with params := { Params.default with tMid := 4, tEnd := 8 } }) = true ∧
    frameFaults (runFrame 2 ⟨0, 0, 0⟩ (rom [0x08])) = true := by decide

end Sys2Proof.Tests
end

section
/-! ## The step keeps the invariant (60_exceptions.md R254, R255, R261) -/

namespace Sys2Proof.Machine

/-- An offered interrupt costs at most INT_ACK_CYCLES (R256, R257). -/
theorem offer_cyc_le (n : Fin 8) (s : State) : (offer n s).cyc ≤ s.cyc + s.params.intAckCycles := by
  cases h : s.ie
  · rw [offer_of_not_ie h]
    exact Nat.le_add_right _ _
  · rw [offer_of_ie h, deliver_cyc]

theorem timingInv_preMid {s : State} (hp : s.phase = .preMid) : TimingInv s ↔ s.cyc < s.params.tMid := by
  simp only [TimingInv, hp]

theorem timingInv_preEnd {s : State} (hp : s.phase = .preEnd) :
    TimingInv s ↔
      s.cyc < max s.params.tEnd (s.params.tMid + Params.stepBound s.params + s.params.intAckCycles) := by
  simp only [TimingInv, hp]

/-- The timing bounds speak of the counter, the phase and the parameters alone. -/
theorem timingInv_congr {s t : State} (hc : t.cyc = s.cyc) (hp : t.phase = s.phase) (hq : t.params = s.params) :
    TimingInv t ↔ TimingInv s := by
  simp only [TimingInv, hc, hp, hq]

/-- A boundary whose cost is within the step bound keeps the timing bounds: without an event the threshold is not
reached; the mid-screen event overshoots T_MID by at most the cost and INT_ACK_CYCLES; the end of frame restarts the
counter at 0. -/
theorem timingInv_boundary {cost : Nat} {s : State} (hcost : cost ≤ Params.stepBound s.params) (hok : s.params.ok)
    (h : TimingInv s) : TimingInv (boundary cost s) := by
  obtain ⟨e, hlt⟩ | ⟨hp, -, e⟩ | ⟨-, -, e⟩ := boundary_cases cost s <;> rw [e]
  · cases hp : s.phase <;> simp only [hp] at hlt
    · exact (timingInv_preMid (s := s.addCycles cost) hp).mpr hlt
    · exact (timingInv_preEnd (s := s.addCycles cost) hp).mpr (lt_max_of_lt_left hlt)
  · have hs : s.cyc < s.params.tMid := (timingInv_preMid hp).mp h
    have ho : (offer 1 (s.addCycles cost)).cyc ≤ s.cyc + cost + s.params.intAckCycles :=
      offer_cyc_le 1 (s.addCycles cost)
    refine (timingInv_preEnd rfl).mpr (lt_max_of_lt_right ?_)
    simp only [offer_params, State.addCycles_params]
    omega
  · refine (timingInv_preMid rfl).mpr ?_
    simpa only [offer_params, State.addCycles_params] using hok.1

/-- A boundary whose cost is within the step bound keeps the invariant. -/
theorem State.Inv.boundary {cost : Nat} {s : State} (h : s.Inv) (hcost : cost ≤ Params.stepBound s.params) :
    (boundary cost s).Inv where
  wf := (boundary_effect cost s).mem.wf h.wf
  params := (boundary_effect cost s).params ▸ h.params
  timing := timingInv_boundary hcost h.params h.timing

/-- An instruction's effect keeps the invariant: memory changes through the bus alone, the counter not at all. -/
theorem State.Inv.effect {i : Instr} {s u : State} (h : s.Inv) (he : Effect i s u) : u.Inv where
  wf := he.mem.wf h.wf
  params := he.params ▸ h.params
  timing := (timingInv_congr he.cyc he.phase he.params).mpr h.timing

theorem haltStepCycles_le_stepBound (p : Params) : haltStepCycles ≤ Params.stepBound p :=
  le_trans (by decide) (le_max_left 18 p.jccNotTakenCycles)

/-- Settles O49: the halted step and the step of an instruction both end in a boundary of bounded cost, and the step
that faults changes nothing the invariant speaks of. -/
theorem stepKeepsInvariant : Obligations.StepKeepsInvariant := by
  intro s t hinv hstep
  obtain ⟨-, ⟨-, rfl⟩ | ⟨-, u, -, he, ⟨-, rfl⟩ | ⟨-, rfl⟩⟩⟩ := step_cases hstep
  · exact hinv.boundary (haltStepCycles_le_stepBound s.params)
  · exact (hinv.effect he).boundary (he.params ▸ cycles_le (fetch s) s)
  · exact hinv.effect he

/-- Settles O50. -/
theorem resetMeetsInvariant : Obligations.ResetMeetsInvariant where
  wf := rfl
  params := by decide
  timing := (timingInv_preMid rfl).mpr (by decide)

end Sys2Proof.Machine
end

section
/-! ## Power-on (10_state.md R36 to R42) -/

namespace Sys2Proof.Machine

/-- At power-on no byte is listed, so every address reads as an unlisted one (R39). -/
theorem memRead_powerOn (p : Params) (draw : PowerOnDraw) (first : Snapshot) (x : Word) :
    (State.powerOn p draw first).memRead x = Memory.unlisted := rfl

/-- Settles O47. -/
theorem powerOnState : Obligations.PowerOnState := by
  intro p draw first
  exact ⟨rfl, rfl, rfl, rfl, rfl, rfl, rfl, rfl, rfl, rfl, fun x _ => memRead_powerOn p draw first x, rfl, rfl, rfl,
    rfl, rfl, rfl, rfl, rfl, rfl⟩

end Sys2Proof.Machine
end

section
/-! ## PUSH PSW and POP PSW (44_stack_io_control.md R221, R223) -/

namespace Sys2Proof.Machine

/-- Push16 after the PC advance pushes and goes on behind the instruction. -/
theorem pushes_advance (s : State) (n : Nat) (v : Word) :
    Pushes v (s.pc + BitVec.ofNat 16 n) s ((s.advance n).push16 v) :=
  pushes_push16 s n v (s.pc + BitVec.ofNat 16 n)

/-- POP PSW after the PC advance: A the byte at SP + 1, the flags the image in the byte at SP (R223). -/
theorem popPSW_advance (s : State) (n : Nat) :
    popPSW (s.advance n) =
      { s with a := s.memRead (s.sp + 1), flags := Flags.ofByte (s.memRead s.sp), sp := s.sp + 2,
               pc := s.pc + BitVec.ofNat 16 n } := by
  have htop : (s.advance n).top16 = joinBytes (s.memRead (s.sp + 1)) (s.memRead s.sp) := rfl
  rw [popPSW, htop, highByte_joinBytes, lowByte_joinBytes, ← add_one_one]
  rfl

/-- Settles O28. -/
theorem pswPushAndPop : Obligations.PswPushAndPop := by
  intro s
  constructor
  · refine ⟨rfl, rfl, _, rfl, ?_⟩
    rw [← flags_toByte_eq]
    exact pushes_advance s 1 _
  · exact ⟨rfl, rfl, _, rfl, popPSW_advance s 1, memoryKept_of_mem rfl⟩

end Sys2Proof.Machine
end

section
/-! ## What a boundary and an instruction do to IE and halted (10_state.md R28, R29; 60_exceptions.md R256, R257) -/

namespace Sys2Proof.Machine

theorem restartVector_one : restartVector 1 = 0x0008 := rfl
theorem restartVector_two : restartVector 2 = 0x0010 := rfl

/-- A boundary never raises IE. -/
theorem ie_of_ie_boundary {cost : Nat} {s : State} (h : (boundary cost s).ie = true) : s.ie = true := by
  obtain ⟨hie, -, -⟩ | ⟨hie, -, -, -⟩ := boundary_interrupt cost s
  · exact hie ▸ h
  · exact hie

/-- A boundary never halts the CPU. -/
theorem halted_of_halted_boundary {cost : Nat} {s : State} (h : (boundary cost s).halted = true) :
    s.halted = true := by
  obtain ⟨-, hh, -⟩ | ⟨-, -, hh, -⟩ := boundary_interrupt cost s
  · exact hh ▸ h
  · simp [hh] at h

/-- A boundary that clears IE delivered an interrupt. -/
theorem delivered_of_boundary_clears_ie {cost : Nat} {s : State} (hs : s.ie = true)
    (ht : (boundary cost s).ie = false) :
    (boundary cost s).halted = false ∧
      (((boundary cost s).pc = 0x0008 ∧ (boundary cost s).phase = .preEnd) ∨
        ((boundary cost s).pc = 0x0010 ∧ (boundary cost s).phase = .preMid)) := by
  obtain ⟨hie, -, -⟩ | ⟨-, -, hh, hpc⟩ := boundary_interrupt cost s
  · simp [hie, hs] at ht
  · rw [restartVector_one, restartVector_two] at hpc
    exact ⟨hh, hpc⟩

/-- A boundary that wakes a halted CPU delivered an interrupt. -/
theorem delivered_of_boundary_wakes {cost : Nat} {s : State} (hs : s.halted = true)
    (ht : (boundary cost s).halted = false) :
    s.ie = true ∧ (boundary cost s).ie = false ∧
      ((boundary cost s).pc = 0x0008 ∨ (boundary cost s).pc = 0x0010) := by
  obtain ⟨-, hh, -⟩ | ⟨hs', hie, -, hpc⟩ := boundary_interrupt cost s
  · simp [hh, hs] at ht
  · rw [restartVector_one, restartVector_two] at hpc
    exact ⟨hs', hie, hpc.imp And.left And.left⟩

/-- Of the instructions EI alone raises IE (R228). -/
theorem Effect.eq_ei {i : Instr} {s u : State} (he : Effect i s u) (hs : s.ie = false) (hu : u.ie = true) :
    i = .ei := by
  obtain hkeep | ⟨hi, -⟩ | ⟨-, hclear⟩ := he.ie
  · simp [hs, hu] at hkeep
  · exact hi
  · simp [hclear] at hu

/-- Of the instructions DI alone clears IE (R229). -/
theorem Effect.eq_di {i : Instr} {s u : State} (he : Effect i s u) (hs : s.ie = true) (hu : u.ie = false) :
    i = .di := by
  obtain hkeep | ⟨-, hset⟩ | ⟨hi, -⟩ := he.ie
  · simp [hs, hu] at hkeep
  · simp [hset] at hu
  · exact hi

/-- Of the instructions HLT alone halts the CPU (R230). -/
theorem Effect.eq_hlt {i : Instr} {s u : State} (he : Effect i s u) (hs : s.halted = false) (hu : u.halted = true) :
    i = .hlt := by
  obtain hkeep | ⟨hi, -⟩ := he.halted
  · simp [hs, hu] at hkeep
  · exact hi

/-- A boundary changes no register (R257). -/
theorem BoundaryEffect.readCode_eq {s t : State} (he : BoundaryEffect s t) {r : RegCode} (hr : r ≠ .m) :
    t.readCode r = s.readCode r := by
  cases r with
  | b => exact he.b
  | c => exact he.c
  | d => exact he.d
  | e => exact he.e
  | h => exact he.h
  | l => exact he.l
  | m => exact absurd rfl hr
  | a => exact he.a

end Sys2Proof.Machine
end

section
/-! ## halted over a step (10_state.md R29, 60_exceptions.md R262) -/

namespace Sys2Proof.Machine

/-- Settles O53: a step from a halted CPU is a boundary alone; a step from another state halts it only by the
instruction's effect. -/
theorem haltEndsOnlyByDelivery : Obligations.HaltEndsOnlyByDelivery := by
  intro s t hstep
  obtain ⟨-, ⟨hs, rfl⟩ | ⟨hs, u, -, he, hu⟩⟩ := step_cases hstep
  · have hb := boundary_effect 7 s
    refine ⟨fun hrun => ?_, delivered_of_boundary_wakes,
      fun _ => ⟨fun r hr => hb.readCode_eq hr, hb.flags, hb.shv, hb.sha⟩⟩
    simp [hs] at hrun
  · have hnot : s.halted ≠ true := by simp [hs]
    refine ⟨fun _ ht => he.eq_hlt hs ?_, fun hhalt => absurd hhalt hnot, fun hhalt => absurd hhalt hnot⟩
    obtain ⟨-, rfl⟩ | ⟨-, rfl⟩ := hu
    · exact halted_of_halted_boundary ht
    · exact ht

end Sys2Proof.Machine
end

section
/-! ## No instruction but EI and DI depends on IE, the frame counter or the phase (10_state.md R28, R31) -/

namespace Sys2Proof.Machine

/-- The state with another interrupt enable, frame counter and phase: the three fields of the interrupt controller. -/
def State.withControl (s : State) (v : Bool) (n : Nat) (ph : Phase) : State :=
  { s with ie := v, cyc := n, phase := ph }

/-- A state transformer that neither reads nor writes the interrupt controller's fields. -/
def IgnoresControl (f : State → State) : Prop :=
  ∀ (s : State) (v : Bool) (n : Nat) (ph : Phase), f (s.withControl v n ph) = (f s).withControl v n ph

/-- A function on the state a result hands on. -/
def onNext (g : State → State) : Result → Result
  | .next t => .next (g t)
  | .fault r => .fault r
  | .refused r => .refused r

theorem ignoresControl_noEffect : IgnoresControl noEffect := fun _ _ _ _ => rfl
theorem ignoresControl_jumpTo (w : Word) : IgnoresControl (jumpTo w) := fun _ _ _ _ => rfl
theorem ignoresControl_callTo (w : Word) : IgnoresControl (callTo w) := fun _ _ _ _ => rfl
theorem ignoresControl_returnFromCall : IgnoresControl returnFromCall := fun _ _ _ _ => rfl

/-- A condition reads the flags alone, so doing f only where one holds ignores what f ignores (R200). -/
theorem IgnoresControl.onCond {f : State → State} (hf : IgnoresControl f) (cc : Cond) :
    IgnoresControl (fun s => if s.flags.cond cc then f s else s) := by
  intro s v n ph
  have hflags : (s.withControl v n ph).flags = s.flags := rfl
  dsimp only
  rw [hflags]
  split
  · exact hf s v n ph
  · rfl

theorem ignoresControl_outPort (p : Byte) : IgnoresControl (outPort p) := by
  intro s v n ph
  unfold outPort State.portOut
  split
  · rfl
  · split <;> rfl

/-- An instruction whose effect ignores the interrupt controller completes the same under any of its states. -/
theorem complete_withControl {f : State → State} (hf : IgnoresControl f) (k : Nat) (s : State) (v : Bool) (n : Nat)
    (ph : Phase) :
    complete k f (s.withControl v n ph) = onNext (fun t => t.withControl v n ph) (complete k f s) :=
  congrArg Host.Outcome.next (hf (s.advance k) v n ph)

/-- An illegal opcode ignores the interrupt controller under both policies, where what it stands for does (R109). -/
theorem undocumented_withControl {f : State → State} (hf : IgnoresControl f) (op : Byte) (k : Nat) (s : State)
    (v : Bool) (n : Nat) (ph : Phase) :
    undocumented op (complete k f) (s.withControl v n ph) =
      onNext (fun t => t.withControl v n ph) (undocumented op (complete k f) s) := by
  have hparams : (s.withControl v n ph).params = s.params := rfl
  unfold undocumented
  rw [hparams]
  cases s.params.undoc with
  | fault => rfl
  | alias8080 => exact complete_withControl hf k s v n ph

/-- Every instruction but EI and DI answers the same from any state of the interrupt controller (R28, R31). -/
theorem exec_withControl {i : Instr} (hei : i ≠ .ei) (hdi : i ≠ .di) (s : State) (v : Bool) (n : Nat) (ph : Phase) :
    exec i (s.withControl v n ph) = onNext (fun t => t.withControl v n ph) (exec i s) := by
  cases i with
  | ei => exact absurd rfl hei
  | di => exact absurd rfl hdi
  | jnz w | jz w | jnc w | jc w | jpo w | jpe w | jp w | jm w =>
    exact complete_withControl ((ignoresControl_jumpTo w).onCond _) 3 s v n ph
  | cnz w | cz w | cnc w | cc w | cpo w | cpe w | cp w | cm w =>
    exact complete_withControl ((ignoresControl_callTo w).onCond _) 3 s v n ph
  | rnz | rz | rnc | rc | rpo | rpe | rp | rm =>
    exact complete_withControl (ignoresControl_returnFromCall.onCond _) 1 s v n ph
  | out p => exact complete_withControl (ignoresControl_outPort p) 2 s v n ph
  | illegal08h | illegal10h | illegal18h | illegal20h | illegal28h | illegal30h | illegal38h =>
    exact undocumented_withControl ignoresControl_noEffect _ 1 s v n ph
  | illegalCBh w => exact undocumented_withControl (ignoresControl_jumpTo w) _ 3 s v n ph
  | illegalD9h => exact undocumented_withControl ignoresControl_returnFromCall _ 1 s v n ph
  | illegalDDh w | illegalEDh w | illegalFDh w =>
    exact undocumented_withControl (ignoresControl_callTo w) _ 3 s v n ph
  -- the other instructions take no branch: both sides compute to one record
  | _ => rfl

end Sys2Proof.Machine
end

section
/-! ## IE over a step (10_state.md R28, 60_exceptions.md R256, R257) -/

namespace Sys2Proof.Machine

/-- With another IE, an instruction but EI and DI ends in the same state with that IE. -/
theorem exec_with_ie {i : Instr} (hei : i ≠ .ei) (hdi : i ≠ .di) {s t : State} (h : exec i s = .next t)
    (he : Effect i s t) (v : Bool) : exec i { s with ie := v } = .next { t with ie := v } := by
  calc exec i { s with ie := v }
    _ = onNext (fun u => u.withControl v s.cyc s.phase) (exec i s) := exec_withControl hei hdi s v s.cyc s.phase
    _ = .next (t.withControl v s.cyc s.phase) := by rw [h, onNext]
    _ = .next { t with ie := v } := by rw [← he.cyc, ← he.phase, State.withControl]

/-- Settles O52: IE goes up only through the instruction's effect, and down through that or a boundary's delivery; the
non-interference clause is `exec_withControl` with the counter and the phase left as they are. -/
theorem interruptEnableChangesOnlyAsStated : Obligations.InterruptEnableChangesOnlyAsStated := by
  refine ⟨fun s t hstep => ?_, fun i s v hei hdi => ?_⟩
  · obtain ⟨-, ⟨-, rfl⟩ | ⟨hrun, u, -, he, ⟨-, rfl⟩ | ⟨-, rfl⟩⟩⟩ := step_cases hstep
    · refine ⟨fun hs ht => ?_, fun hs ht => .inr (delivered_of_boundary_clears_ie hs ht)⟩
      simp [ie_of_ie_boundary ht] at hs
    · refine ⟨fun hs ht => ⟨hrun, he.eq_ei hs (ie_of_ie_boundary ht)⟩, fun hs ht => ?_⟩
      cases hu : u.ie
      · exact .inl ⟨hrun, he.eq_di hs hu⟩
      · exact .inr (delivered_of_boundary_clears_ie hu ht)
    · exact ⟨fun hs ht => ⟨hrun, he.eq_ei hs ht⟩, fun hs ht => .inl ⟨hrun, he.eq_di hs ht⟩⟩
  · obtain ⟨t, ht, he⟩ := exec_effect i s
    rw [exec_with_ie hei hdi ht he v, ht]

end Sys2Proof.Machine
end

section
/-! ## The ports (20_memory.md R61 to R67) -/

namespace Sys2Proof.Machine

theorem State.portIn_zero (s : State) : s.portIn 0 = s.input.in0 ||| 0x0E := rfl
theorem State.portIn_one (s : State) : s.portIn 1 = s.input.in1 ||| 0x08 := rfl
theorem State.portIn_two (s : State) : s.portIn 2 = s.input.in2 := rfl

theorem State.portIn_three (s : State) : s.portIn 3 = s.shv.extractLsb' (8 - s.sha.toNat) 8 := shiftResult_eq s

/-- A port above 3 reads 0x00 (R61). -/
theorem State.portIn_unmapped (s : State) {p : Byte} (hp : 3 < p.toNat) : s.portIn p = 0 := by
  unfold State.portIn
  rw [if_neg, if_neg, if_neg, if_neg] <;> rintro rfl <;> exact absurd hp (by decide)

/-- Every port but 3 reads the input bytes alone (R61). -/
theorem State.portIn_congr {s t : State} (h : t.input = s.input) {p : Byte} (hp : p ≠ 3) :
    t.portIn p = s.portIn p := by
  unfold State.portIn
  rw [h, if_neg hp, if_neg hp]

theorem State.portOut_unused {p : Byte} (h2 : p ≠ 2) (h4 : p ≠ 4) (s : State) (v : Byte) : s.portOut p v = s := by
  rw [State.portOut, if_neg h2, if_neg h4]

/-- The three things an output can be: the shift amount, the shift data, nothing (R63). -/
theorem State.portOut_cases (s : State) (p v : Byte) :
    (p = 2 ∧ s.portOut p v = s.setAmount v) ∨ (p = 4 ∧ s.portOut p v = s.shiftIn v) ∨
      (p ≠ 2 ∧ p ≠ 4 ∧ s.portOut p v = s) := by
  by_cases h2 : p = 2
  · exact .inl ⟨h2, by rw [State.portOut, if_pos h2]⟩
  · by_cases h4 : p = 4
    · exact .inr (.inl ⟨h4, by rw [State.portOut, if_neg h2, if_pos h4]⟩)
    · exact .inr (.inr ⟨h2, h4, s.portOut_unused h2 h4 v⟩)

/-- An output touches the shift register alone (R67). -/
theorem State.portOut_eq (s : State) (p v : Byte) :
    s.portOut p v = { s with shv := (s.portOut p v).shv, sha := (s.portOut p v).sha } := by
  obtain ⟨-, h⟩ | ⟨-, h⟩ | ⟨-, -, h⟩ := s.portOut_cases p v <;> rw [h] <;> rfl

theorem State.setAmount_sha_toNat (s : State) (v : Byte) : (s.setAmount v).sha.toNat = v.toNat % 8 := by
  rw [State.setAmount_sha, BitVec.toNat_setWidth]

/-- Port 2 alone sets the shift amount (R64). -/
theorem State.portOut_sha_toNat (s : State) (p v : Byte) :
    (s.portOut p v).sha.toNat = if p.toNat = 2 then v.toNat % 8 else s.sha.toNat := by
  obtain ⟨rfl, h⟩ | ⟨rfl, h⟩ | ⟨h2, -, h⟩ := s.portOut_cases p v <;> rw [h]
  · exact s.setAmount_sha_toNat v
  · rfl
  · exact (if_neg fun e => h2 (BitVec.eq_of_toNat_eq e)).symm

/-- Port 4 alone shifts a byte in (R65). -/
theorem State.portOut_shv_toNat (s : State) (p v : Byte) :
    (s.portOut p v).shv.toNat = if p.toNat = 4 then 256 * v.toNat + s.shv.toNat / 256 else s.shv.toNat := by
  obtain ⟨rfl, h⟩ | ⟨rfl, h⟩ | ⟨-, h4, h⟩ := s.portOut_cases p v <;> rw [h]
  · rfl
  · exact shiftIn_shv_toNat s v
  · exact (if_neg fun e => h4 (BitVec.eq_of_toNat_eq e)).symm

/-! ## IN and OUT (44_stack_io_control.md R226, R227) -/

theorem exec_inp (p : Byte) (s : State) : exec (.inp p) s = .next { s with a := s.portIn p, pc := s.pc + 2 } := rfl

theorem exec_out (p : Byte) (s : State) : exec (.out p) s = .next ((s.advance 2).portOut p s.a) := rfl

/-- Settles O30: A is what the port reads; the frame is that of any write to A. -/
theorem inReadsPort : Obligations.InReadsPort := by
  intro p s
  refine ⟨rfl, rfl, _, exec_inp p s, fun hp => ?_, fun hp => ?_, fun hp => ?_, fun hp => ?_, s.portIn_unmapped,
    registerFrame_writeCode s 2 (r := .a) (s.portIn p) (by decide)⟩
  · obtain rfl : p = 0 := BitVec.eq_of_toNat_eq hp
    exact s.portIn_zero
  · obtain rfl : p = 1 := BitVec.eq_of_toNat_eq hp
    exact s.portIn_one
  · obtain rfl : p = 2 := BitVec.eq_of_toNat_eq hp
    exact s.portIn_two
  · obtain rfl : p = 3 := BitVec.eq_of_toNat_eq hp
    exact s.portIn_three

/-- Settles O31: an output touches the shift register alone, and no input port but 3 reads that. -/
theorem outWritesPort : Obligations.OutWritesPort := by
  intro p s
  refine ⟨rfl, rfl, _, exec_out p s, State.portOut_eq _ p s.a, memoryKept_of_mem (State.portOut_mem _ p s.a),
    State.portOut_sha_toNat _ p s.a, State.portOut_shv_toNat _ p s.a, fun q hq => ?_⟩
  exact State.portIn_congr (State.portOut_input _ p s.a) (fun e => hq (congrArg BitVec.toNat e))

/-- An output to a port other than 2 and 4 changes nothing but PC (R63). -/
theorem exec_out_unused {p : Byte} (h2 : p ≠ 2) (h4 : p ≠ 4) (s : State) :
    exec (.out p) s = .next { s with pc := s.pc + 2 } := by
  rw [exec_out, State.portOut_unused h2 h4]
  rfl

/-- Settles O54: a boundary keeps the shift register, so a step changes it only through the instruction's effect. -/
theorem shiftRegisterChangesOnlyByOut : Obligations.ShiftRegisterChangesOnlyByOut := by
  refine ⟨fun s t hstep => ?_, fun p s => ⟨⟨_, exec_inp p s⟩, fun h2 h4 => exec_out_unused h2 h4 s⟩⟩
  obtain ⟨-, ⟨-, rfl⟩ | ⟨-, u, -, he, ⟨-, rfl⟩ | ⟨-, rfl⟩⟩⟩ := step_cases hstep
  · have hb := boundary_effect 7 s
    exact ⟨fun hv => absurd hb.shv hv, fun ha => absurd hb.sha ha⟩
  · have hb := boundary_effect (cycles (fetch s) s) u
    exact ⟨fun hv => he.shv.resolve_left (hb.shv ▸ hv), fun ha => he.sha.resolve_left (hb.sha ▸ ha)⟩
  · exact ⟨he.shv.resolve_left, he.sha.resolve_left⟩

end Sys2Proof.Machine
end

section
/-! ## Byte and 16-bit accesses (20_memory.md R51 to R55) -/

namespace Sys2Proof.Machine

theorem isRom_iff (a : Word) : isRom a ↔ physical a ≤ 0x1FFF := by
  unfold isRom regionOf
  by_cases h : physical a ≤ 0x1FFF
  · simp [h]
  · rw [if_neg h]
    split <;> simp [h]

/-- Two addresses are mirrors of one physical byte exactly when they agree in their low 14 bits (R51). -/
theorem physical_eq_iff {a x : Word} : physical x = physical a ↔ x &&& 0x3FFF = a &&& 0x3FFF :=
  BitVec.toNat_inj

/-- A byte store to ROM changes nothing (R53). -/
theorem State.memWrite_rom {a : Word} (h : isRom a) (s : State) (v : Byte) : s.memWrite a v = s := by
  rw [State.memWrite, busWrite_rom h]

/-- Settles O45. -/
theorem byteStoreReadBackThroughMirrors : Obligations.ByteStoreReadBackThroughMirrors := by
  intro s a x v
  refine ⟨isRom_iff a, fun hx ha => ?_, fun hx => ?_, fun ha => s.memWrite_rom ha v⟩
  · rw [State.memRead_memWrite, if_pos ⟨physical_eq_iff.mpr hx, ha⟩]
  · rw [State.memRead_memWrite, if_neg fun h => hx (physical_eq_iff.mp h.1)]

theorem State.memRead2_toNat (s : State) (a : Word) :
    (s.memRead2 a).toNat = (s.memRead a).toNat + 256 * (s.memRead (a + 1)).toNat := by
  rw [State.memRead2, joinBytes_toNat, Nat.add_comm]

theorem storesWord_memWrite2 (s : State) (a v : Word) : StoresWord s (s.memWrite2 a v) a v :=
  storesWord_of_mem (.inl rfl)

/-- A 16-bit value stored with both halves in RAM is read back whole (R55). -/
theorem StoresWord.memRead2_eq {s t : State} {a v : Word} (h : StoresWord s t a v) (ha : ¬ isRom a)
    (ha' : ¬ isRom (a + 1)) : t.memRead2 a = v := by
  obtain ⟨hlow, hhigh, -⟩ := h
  rw [State.memRead2, hhigh (a + 1) rfl, hlow a rfl, if_neg ha, if_neg ha', joinBytes_high_low]

/-- Settles O46. -/
theorem wordAccessIsLittleEndian : Obligations.WordAccessIsLittleEndian := by
  intro s a v
  have hstore := storesWord_memWrite2 s a v
  exact ⟨s.memRead2_toNat a, hstore, ⟨rfl, (BitVec.add_zero s.pc).symm⟩, hstore.memRead2_eq⟩

end Sys2Proof.Machine
end

section
/-! ## The picture (20_memory.md R71 to R73) -/

namespace Sys2Proof.Machine

/-- The pixel of bit b of video-RAM byte i lies in that byte (R71). -/
theorem pixelAddress_of_byte {i b : Nat} (hb : b < 8) :
    pixelAddress (255 - (8 * (i % 32) + b)) (i / 32) = BitVec.ofNat 16 (0x2400 + i) := by
  have hoffset : 0x2400 + 32 * (i / 32) + (255 - (255 - (8 * (i % 32) + b))) / 8 = 0x2400 + i := by omega
  rw [pixelAddress, hoffset]

/-- The pixel of bit b of video-RAM byte i is that bit (R71). -/
theorem pixelBit_of_bit {i b : Nat} (hb : b < 8) : pixelBit (255 - (8 * (i % 32) + b)) = b := by
  unfold pixelBit
  omega

/-- Every pixel is that of some bit of some video-RAM byte (R73). -/
theorem exists_byte_of_pixel {y x : Nat} (hy : y < 256) (hx : x < 224) :
    ∃ i b : Nat, i < 7168 ∧ b < 8 ∧ y = 255 - (8 * (i % 32) + b) ∧ x = i / 32 :=
  ⟨32 * x + (255 - y) / 8, (255 - y) % 8, by omega, by omega, by omega, by omega⟩

/-- Different bits of video RAM have different pixels (R73). -/
theorem byte_unique_of_pixel {i b i' b' : Nat} (hb : b < 8) (hb' : b' < 8)
    (hy : 255 - (8 * (i % 32) + b) = 255 - (8 * (i' % 32) + b')) (hx : i / 32 = i' / 32) : i' = i ∧ b' = b := by
  omega

/-- Settles O40. -/
theorem rasterizerMapsEveryPixel : Obligations.RasterizerMapsEveryPixel := by
  refine fun s => ⟨fun i b hi hb => ?_, fun y x hy hx => ?_⟩
  · rw [rasterize_pixel s (by omega) (by omega), pixelAddress_of_byte hb, pixelBit_of_bit hb]
  · obtain ⟨i, b, hi, hb, hyb, hxi⟩ := exists_byte_of_pixel hy hx
    exact ⟨i, b, ⟨hi, hb, hyb, hxi⟩, fun i' b' _ hb' hy' hx' =>
      byte_unique_of_pixel hb hb' (hyb.symm.trans hy') (hxi.symm.trans hx')⟩

end Sys2Proof.Machine
end

section
/-! ## Decoding an encoding (30_encoding.md R100, R101) -/

namespace Sys2Proof

theorem decode_f1 {op : Byte} {i : Instr} (h : formOf op = .f1 i) (rest : List Byte) :
    decode (op :: rest) = .ok (i, rest) := by
  simp only [decode, h]

theorem decode_f2 {op : Byte} {mk : Byte → Instr} (h : formOf op = .f2 mk) (n : Byte) (rest : List Byte) :
    decode (op :: n :: rest) = .ok (mk n, rest) := by
  simp only [decode, h]

/-- The operand word stands low byte first (R101). -/
theorem decode_f3 {op : Byte} {mk : Word → Instr} (h : formOf op = .f3 mk) (w : Word) (rest : List Byte) :
    decode (op :: lowByte w :: highByte w :: rest) = .ok (mk w, rest) := by
  simp only [decode, h, Machine.joinBytes_high_low]

/-- Settles O41, by the format of the instruction: the map has its constructor at its opcode byte. -/
theorem decodeEncodeRoundTrip : Obligations.DecodeEncodeRoundTrip := by
  intro i rest
  cases i with
  | lxiB w | lxiD w | lxiH w | lxiSP w | shld w | lhld w | sta w | lda w
  | jmp w | jnz w | jz w | jnc w | jc w | jpo w | jpe w | jp w | jm w
  | call w | cnz w | cz w | cnc w | cc w | cpo w | cpe w | cp w | cm w
  | illegalCBh w | illegalDDh w | illegalEDh w | illegalFDh w => exact decode_f3 rfl w rest
  | mviB n | mviC n | mviD n | mviE n | mviH n | mviL n | mviM n | mviA n
  | adi n | aci n | sui n | sbi n | ani n | xri n | ori n | cpi n | inp n | out n => exact decode_f2 rfl n rest
  | _ => exact decode_f1 rfl rest

end Sys2Proof
end

section
/-! ## Encoding what a byte selects (30_encoding.md R107, R109, R112) -/

namespace Sys2Proof

/-- The instruction of a form whose operand bytes are those of w, low byte first (R100, R101). -/
def Form.instr : Form → Word → Instr
  | .f1 i, _ => i
  | .f2 mk, w => mk (lowByte w)
  | .f3 mk, w => mk w

theorem decodeBytes_eq_instr (op b1 b2 : Byte) : decodeBytes op b1 b2 = (formOf op).instr (joinBytes b2 b1) := by
  unfold decodeBytes
  cases formOf op with
  | f1 i => rfl
  | f2 mk => exact congrArg mk (Machine.lowByte_joinBytes b2 b1).symm
  | f3 mk => rfl

/-- The 256 bytes, for a case split over the rows of the map. -/
theorem exists_eq_ofNat (op : Byte) : ∃ n < 256, op = BitVec.ofNat 8 n :=
  ⟨op.toNat, op.isLt, by rw [BitVec.ofNat_toNat, BitVec.setWidth_eq]⟩

/-- The map holds at each byte the form whose instructions begin with that byte (R107). -/
theorem encode_instr (op : Byte) (w : Word) :
    encode ((formOf op).instr w) = [op, lowByte w, highByte w].take (formOf op).length := by
  obtain ⟨n, hn, rfl⟩ := exists_eq_ofNat op
  interval_cases n <;> rfl

/-- The map holds the undocumented forms at the twelve illegal bytes (R109). -/
theorem documented_instr (op : Byte) (w : Word) :
    ((formOf op).instr w).documented =
      decide (op ∉ ([0x08, 0x10, 0x18, 0x20, 0x28, 0x30, 0x38, 0xCB, 0xD9, 0xDD, 0xED, 0xFD] : List Byte)) := by
  obtain ⟨n, hn, rfl⟩ := exists_eq_ofNat op
  interval_cases n <;> rfl

theorem encode_decodeBytes (op b1 b2 : Byte) :
    encode (decodeBytes op b1 b2) = [op, b1, b2].take (formOf op).length := by
  rw [decodeBytes_eq_instr, encode_instr, Machine.lowByte_joinBytes, Machine.highByte_joinBytes]

/-- Settles O42: the encoding is the leading bytes of the format's length, which is then the instruction's. -/
theorem everyOpcodeSelectsOneRow : Obligations.EveryOpcodeSelectsOneRow := by
  intro op b1 b2
  constructor
  · simp [Instr.length, encode_decodeBytes, List.take_eq_take_iff]
  · rw [decodeBytes_eq_instr, documented_instr, decide_eq_false_iff_not, not_not]

end Sys2Proof
end

section
/-! ## The step of a decoded instruction (30_encoding.md R110, 60_exceptions.md R250, R263) -/

namespace Sys2Proof.Machine

theorem finishStep_of_running {t : State} (h : t.status = .running) (cost : Nat) :
    finishStep cost t = boundary cost t := by
  simp only [finishStep, h]

theorem finishStep_of_not_running {t : State} (h : t.status ≠ .running) (cost : Nat) : finishStep cost t = t := by
  unfold finishStep
  split
  next hr => exact absurd hr h
  next => rfl

/-- Settles O37: the step is the machine loop after the answer of the instruction fetched, and the list decoder names
that instruction. -/
theorem stepRunsDecodedInstruction : Obligations.StepRunsDecodedInstruction := by
  intro s i rest hrun hhalt hdec
  have hstep : step s = afterExec (cycles i s) (exec i s) := by
    rw [step_running hrun hhalt, fetch_of_decode hdec]
  refine ⟨fun t ht hr => ?_, fun t ht hr => ?_, fun r hr => ?_, fun r hr => ?_⟩
  · rw [hstep, ht, afterExec, finishStep_of_running hr]
  · rw [hstep, ht, afterExec, finishStep_of_not_running hr]
  · rw [hstep, hr, afterExec]
  · rw [hstep, hr, afterExec]

end Sys2Proof.Machine
end

section
/-! ## The illegal opcodes under each policy (30_encoding.md R109, 60_exceptions.md R250) -/

namespace Sys2Proof.Machine

theorem undocumented_of_fault {s : State} (h : s.params.undoc = .fault) (op : Byte) (f : State → Result) :
    undocumented op f s = .next { s with status := .faulted .unimplementedOpcode s.pc op } := by
  simp only [undocumented, h, raiseUnimplementedOpcode]

theorem undocumented_of_alias {s : State} (h : s.params.undoc = .alias8080) (op : Byte) (f : State → Result) :
    undocumented op f s = f s := by
  simp only [undocumented, h]

/-- A call of three bytes pushes the address after them and jumps (R203). -/
theorem pushes_callTo (w : Word) (s : State) : Pushes (s.pc + 3) w s (callTo w (s.advance 3)) :=
  pushes_push16 s 3 (s.pc + 3) w

/-- Settles O34: each illegal opcode is `undocumented` of its byte and of the instruction it stands for. -/
theorem illegalOpcodesFollowPolicy : Obligations.IllegalOpcodesFollowPolicy := by
  refine fun w s => ⟨fun p hp => ?_, fun hu => ⟨fun i hi => ?_, ⟨rfl, rfl, ?_⟩, ⟨rfl, rfl, ?_⟩, fun i hi => ?_⟩⟩
  · fin_cases hp <;> exact ⟨rfl, rfl, fun hu => undocumented_of_fault hu _ _⟩
  · fin_cases hi <;> exact ⟨rfl, rfl, undocumented_of_alias hu _ (complete 1 noEffect)⟩
  · exact undocumented_of_alias hu 0xCB (complete 3 (jumpTo w))
  · exact (undocumented_of_alias hu 0xD9 (complete 1 returnFromCall)).trans
      (congrArg Host.Outcome.next (returnFromCall_advance s 1))
  · fin_cases hi <;> exact ⟨rfl, rfl, _, undocumented_of_alias hu _ (complete 3 (callTo w)), pushes_callTo w s⟩

end Sys2Proof.Machine
end

section
/-! ## The opcode fields (30_encoding.md R106, R107, R108) -/

namespace Sys2Proof

/-- Quadrant 01: MOV, with HLT at MOV M,M (R108). -/
theorem decodeBytes_mov (dst r : RegCode) (b1 b2 : Byte) :
    decodeBytes (0b01#2 ++ dst.bits ++ r.bits) b1 b2 = Instr.mov dst r := by
  cases dst <;> cases r <;> rfl

/-- Quadrant 10: the eight ALU operations on a register or M. -/
theorem decodeBytes_alu (r : RegCode) (b1 b2 : Byte) :
    decodeBytes (0b10#2 ++ 0b000#3 ++ r.bits) b1 b2 = Instr.add r ∧
    decodeBytes (0b10#2 ++ 0b001#3 ++ r.bits) b1 b2 = Instr.adc r ∧
    decodeBytes (0b10#2 ++ 0b010#3 ++ r.bits) b1 b2 = Instr.sub r ∧
    decodeBytes (0b10#2 ++ 0b011#3 ++ r.bits) b1 b2 = Instr.sbb r ∧
    decodeBytes (0b10#2 ++ 0b100#3 ++ r.bits) b1 b2 = Instr.ana r ∧
    decodeBytes (0b10#2 ++ 0b101#3 ++ r.bits) b1 b2 = Instr.xra r ∧
    decodeBytes (0b10#2 ++ 0b110#3 ++ r.bits) b1 b2 = Instr.ora r ∧
    decodeBytes (0b10#2 ++ 0b111#3 ++ r.bits) b1 b2 = Instr.cmp r := by
  cases r <;> exact ⟨rfl, rfl, rfl, rfl, rfl, rfl, rfl, rfl⟩

/-- Quadrant 00, the rows with a register code: INR, DCR, MVI. -/
theorem decodeBytes_dst (dst : RegCode) (b1 b2 : Byte) :
    decodeBytes (0b00#2 ++ dst.bits ++ 0b100#3) b1 b2 = Instr.inr dst ∧
    decodeBytes (0b00#2 ++ dst.bits ++ 0b101#3) b1 b2 = Instr.dcr dst ∧
    decodeBytes (0b00#2 ++ dst.bits ++ 0b110#3) b1 b2 = Instr.mvi dst b1 := by
  cases dst <;> exact ⟨rfl, rfl, rfl⟩

/-- Quadrant 00, the rows with a pair code: LXI, INX, DAD, DCX. -/
theorem decodeBytes_pair (p : Pair) (b1 b2 : Byte) :
    decodeBytes (0b00#2 ++ p.bits ++ 0b0001#4) b1 b2 = Instr.lxi p (b2 ++ b1) ∧
    decodeBytes (0b00#2 ++ p.bits ++ 0b0011#4) b1 b2 = Instr.inx p ∧
    decodeBytes (0b00#2 ++ p.bits ++ 0b1001#4) b1 b2 = Instr.dad p ∧
    decodeBytes (0b00#2 ++ p.bits ++ 0b1011#4) b1 b2 = Instr.dcx p := by
  cases p <;> exact ⟨rfl, rfl, rfl, rfl⟩

/-- Quadrant 00, the rows with the one bit of LDAX and STAX. -/
theorem decodeBytes_accPair (k : AccPair) (b1 b2 : Byte) :
    decodeBytes (0b000#3 ++ k.bit ++ 0b0010#4) b1 b2 = Instr.stax k ∧
    decodeBytes (0b000#3 ++ k.bit ++ 0b1010#4) b1 b2 = Instr.ldax k := by
  cases k <;> exact ⟨rfl, rfl⟩

/-- Quadrant 11, the rows with a condition: Rcc, Jcc, Ccc. -/
theorem decodeBytes_cond (cc : Cond) (b1 b2 : Byte) :
    decodeBytes (0b11#2 ++ cc.bits ++ 0b000#3) b1 b2 = Instr.rcc cc ∧
    decodeBytes (0b11#2 ++ cc.bits ++ 0b010#3) b1 b2 = Instr.jcc cc (b2 ++ b1) ∧
    decodeBytes (0b11#2 ++ cc.bits ++ 0b100#3) b1 b2 = Instr.ccc cc (b2 ++ b1) := by
  cases cc <;> exact ⟨rfl, rfl, rfl⟩

/-- Quadrant 11, the rows with a pair code: POP, PUSH. -/
theorem decodeBytes_stackPair (q : StackPair) (b1 b2 : Byte) :
    decodeBytes (0b11#2 ++ q.bits ++ 0b0001#4) b1 b2 = Instr.pop q ∧
    decodeBytes (0b11#2 ++ q.bits ++ 0b0101#4) b1 b2 = Instr.push q := by
  cases q <;> exact ⟨rfl, rfl⟩

/-- Quadrant 11, the rows with a restart number. -/
theorem decodeBytes_rst (n : Fin 8) (b1 b2 : Byte) :
    decodeBytes (0b11#2 ++ BitVec.ofNat 3 n.val ++ 0b111#3) b1 b2 = Instr.rst n := by
  fin_cases n <;> rfl

/-- Settles O44: the patterns with a field by the lemmas above; the immediate ALU rows and the single bytes are read
off the map. -/
theorem opcodeFieldsSelectFamilies : Obligations.OpcodeFieldsSelectFamilies := by
  intro dst r p q k cc n b1 b2
  obtain ⟨hadd, hadc, hsub, hsbb, hana, hxra, hora, hcmp⟩ := decodeBytes_alu r b1 b2
  obtain ⟨hinr, hdcr, hmvi⟩ := decodeBytes_dst dst b1 b2
  obtain ⟨hlxi, hinx, hdad, hdcx⟩ := decodeBytes_pair p b1 b2
  obtain ⟨hstax, hldax⟩ := decodeBytes_accPair k b1 b2
  obtain ⟨hrcc, hjcc, hccc⟩ := decodeBytes_cond cc b1 b2
  obtain ⟨hpop, hpush⟩ := decodeBytes_stackPair q b1 b2
  refine ⟨decodeBytes_mov dst r b1 b2, hadd, hadc, hsub, hsbb, hana, hxra, hora, hcmp,
    rfl, rfl, rfl, rfl, rfl, rfl, rfl, rfl,
    hlxi, hstax, hinx, hinr, hdcr, hmvi, hdad, hldax, hdcx, hrcc, hpop, hjcc, hccc, hpush, decodeBytes_rst n b1 b2, ?_⟩
  repeat' apply And.intro
  all_goals rfl

end Sys2Proof
end

section
/-! ## What the data transfer instructions write (40_data_transfer.md R130 to R142) -/

namespace Sys2Proof.Machine

/-- A register write after the PC advance: the register holds the value, and the frame is the register's. -/
theorem readCode_and_registerFrame_writeCode (s : State) (n : Nat) {r : RegCode} (v : Byte) (h : r ≠ .m) :
    ((s.advance n).writeCode r v).readCode r = v ∧ RegisterFrame r n s ((s.advance n).writeCode r v) :=
  ⟨State.readCode_writeCode_same _ v h, registerFrame_writeCode s n v h⟩

/-- A byte store after the PC advance: one byte is stored, and memory and PC alone differ. -/
theorem storesByte_and_storeFrame_memWrite (s : State) (n : Nat) (a : Word) (v : Byte) :
    StoresByte s ((s.advance n).memWrite a v) a v ∧ StoreFrame n s ((s.advance n).memWrite a v) :=
  ⟨storesByte_of_mem rfl, rfl, rfl⟩

/-! ### MOV (R130 to R132) -/

theorem encode_mov (dst r : RegCode) : encode (Instr.mov dst r) = [0b01#2 ++ dst.bits ++ r.bits] := by
  cases dst <;> cases r <;> rfl

/-- A MOV with M as one of its operands costs two cycles more than one without. -/
theorem cycles_mov (dst r : RegCode) (s : State) :
    cycles (Instr.mov dst r) s = if dst = .m ∨ r = .m then 7 else 5 := by
  cases dst <;> cases r <;> rfl

/-- The source is read, and for M the address formed, in the state before the write. The slot of MOV M,M is HLT's
(R108). -/
theorem exec_mov {dst r : RegCode} (h : dst ≠ .m ∨ r ≠ .m) (s : State) :
    exec (Instr.mov dst r) s = .next ((s.advance 1).writeCode dst (s.readCode r)) := by
  cases dst with
  | m =>
    cases r with
    | m => simp at h
    | _ => rfl
  | _ => cases r <;> rfl

/-- MOV into a register, from any operand, completes with the operand in the register. -/
theorem completes_mov_to_register {dst : RegCode} (hdst : dst ≠ .m) (r : RegCode) (s : State) :
    Completes (Instr.mov dst r) s [0b01#2 ++ dst.bits ++ r.bits] (if dst = .m ∨ r = .m then 7 else 5) fun t =>
      t.readCode dst = s.readCode r ∧ RegisterFrame dst 1 s t :=
  ⟨encode_mov dst r, cycles_mov dst r s, _, exec_mov (.inl hdst) s,
    readCode_and_registerFrame_writeCode s 1 (s.readCode r) hdst⟩

/-- Settles O1. -/
theorem movCopiesRegister : Obligations.MovCopiesRegister := by
  intro dst r s hdst hr
  have h := completes_mov_to_register hdst r s
  rwa [if_neg (not_or.mpr ⟨hdst, hr⟩)] at h

/-- Settles O2. -/
theorem movLoadsRegisterFromMemory : Obligations.MovLoadsRegisterFromMemory := by
  intro dst s hdst
  have h := completes_mov_to_register hdst .m s
  rwa [if_pos (.inr rfl)] at h

/-- Settles O3: a write to the operand M is a store at H:L. -/
theorem movStoresRegisterToMemory : Obligations.MovStoresRegisterToMemory := by
  intro r s hr
  exact ⟨encode_mov .m r, (cycles_mov .m r s).trans (if_pos (.inl rfl)), _, exec_mov (.inr hr) s,
    storesByte_and_storeFrame_memWrite s 1 s.hl (s.readCode r)⟩

/-! ### MVI (R133, R134) -/

theorem encode_mvi (dst : RegCode) (n : Byte) :
    encode (Instr.mvi dst n) = [0b00#2 ++ dst.bits ++ 0b110#3, n] := by
  cases dst <;> rfl

theorem cycles_mvi (dst : RegCode) (n : Byte) (s : State) :
    cycles (Instr.mvi dst n) s = if dst = .m then 10 else 7 := by
  cases dst <;> rfl

theorem exec_mvi (dst : RegCode) (n : Byte) (s : State) :
    exec (Instr.mvi dst n) s = .next ((s.advance 2).writeCode dst n) := by
  cases dst <;> rfl

/-- Settles O4. -/
theorem mviWritesImmediate : Obligations.MviWritesImmediate := by
  intro dst n s
  constructor
  · intro hdst
    exact ⟨encode_mvi dst n, (cycles_mvi dst n s).trans (if_neg hdst), _, exec_mvi dst n s,
      readCode_and_registerFrame_writeCode s 2 n hdst⟩
  · exact ⟨encode_mvi .m n, cycles_mvi .m n s, _, exec_mvi .m n s, storesByte_and_storeFrame_memWrite s 2 s.hl n⟩

/-! ### LDA and STA, LDAX and STAX (R136, R137, R140, R141) -/

theorem exec_lda (w : Word) (s : State) : exec (.lda w) s = .next ((s.advance 3).writeCode .a (s.memRead w)) := rfl

theorem exec_sta (w : Word) (s : State) : exec (.sta w) s = .next ((s.advance 3).memWrite w s.a) := rfl

/-- Settles O6. -/
theorem ldaStaDirect : Obligations.LdaStaDirect := by
  intro w s
  constructor
  · exact ⟨rfl, rfl, _, exec_lda w s, readCode_and_registerFrame_writeCode s 3 (r := .a) (s.memRead w) (by decide)⟩
  · exact ⟨rfl, rfl, _, exec_sta w s, storesByte_and_storeFrame_memWrite s 3 w s.a⟩

theorem State.readAccPair_eq (s : State) (p : AccPair) :
    s.readAccPair p = if p = .bc then joinBytes s.b s.c else joinBytes s.d s.e := by
  cases p <;> rfl

theorem exec_ldax (p : AccPair) (s : State) :
    exec (Instr.ldax p) s = .next ((s.advance 1).writeCode .a (s.memRead (s.readAccPair p))) := by
  cases p <;> rfl

theorem exec_stax (p : AccPair) (s : State) :
    exec (Instr.stax p) s = .next ((s.advance 1).memWrite (s.readAccPair p) s.a) := by
  cases p <;> rfl

theorem encode_ldax (p : AccPair) : encode (Instr.ldax p) = [0b000#3 ++ p.bit ++ 0b1010#4] := by
  cases p <;> rfl

theorem encode_stax (p : AccPair) : encode (Instr.stax p) = [0b000#3 ++ p.bit ++ 0b0010#4] := by
  cases p <;> rfl

theorem cycles_ldax (p : AccPair) (s : State) : cycles (Instr.ldax p) s = 7 := by
  cases p <;> rfl

theorem cycles_stax (p : AccPair) (s : State) : cycles (Instr.stax p) s = 7 := by
  cases p <;> rfl

/-- Settles O8. -/
theorem ldaxStaxIndirect : Obligations.LdaxStaxIndirect := by
  intro p s
  rw [← s.readAccPair_eq p]
  constructor
  · exact ⟨encode_ldax p, cycles_ldax p s, _, exec_ldax p s,
      readCode_and_registerFrame_writeCode s 1 (r := .a) (s.memRead (s.readAccPair p)) (by decide)⟩
  · exact ⟨encode_stax p, cycles_stax p s, _, exec_stax p s,
      storesByte_and_storeFrame_memWrite s 1 (s.readAccPair p) s.a⟩

/-! ### LHLD and SHLD (R138, R139) -/

/-- The pair H:L gets the 16-bit value at w: its low byte, at w, in L, its high byte, at w + 1, in H. -/
theorem exec_lhld (w : Word) (s : State) :
    exec (.lhld w) s = .next { s with l := s.memRead w, h := s.memRead (w + 1), pc := s.pc + 3 } := by
  have hexec : exec (.lhld w) s = .next
      { s with l := lowByte (s.memRead2 w), h := highByte (s.memRead2 w), pc := s.pc + 3 } := rfl
  rw [hexec, State.memRead2, lowByte_joinBytes, highByte_joinBytes]

theorem exec_shld (w : Word) (s : State) : exec (.shld w) s = .next ((s.advance 3).memWrite2 w s.hl) := rfl

/-- Settles O7. -/
theorem lhldShldDirect : Obligations.LhldShldDirect := by
  intro w s
  constructor
  · exact ⟨rfl, rfl, _, exec_lhld w s, rfl, memoryKept_of_mem rfl⟩
  · exact ⟨rfl, rfl, _, exec_shld w s, storesWord_memWrite2 (s.advance 3) w s.hl, rfl, rfl⟩

/-! ### LXI (R135) -/

theorem lowByte_eq_extractLsb' (w : Word) : lowByte w = w.extractLsb' 0 8 :=
  BitVec.setWidth_eq_extractLsb' (by decide)

theorem highByte_eq_extractLsb' (w : Word) : highByte w = w.extractLsb' 8 8 :=
  BitVec.setWidth_ushiftRight_eq_extractLsb

theorem exec_lxi (p : Pair) (w : Word) (s : State) :
    exec (Instr.lxi p w) s = .next ((s.advance 3).writePair p w) := by
  cases p <;> rfl

/-- Settles O5: the halves of the immediate are its bit fields. -/
theorem lxiLoadsPair : Obligations.LxiLoadsPair := by
  intro w s
  rw [← highByte_eq_extractLsb' w, ← lowByte_eq_extractLsb' w]
  exact ⟨⟨rfl, rfl, _, exec_lxi .bc w s, rfl, memoryKept_of_mem rfl⟩,
    ⟨rfl, rfl, _, exec_lxi .de w s, rfl, memoryKept_of_mem rfl⟩,
    ⟨rfl, rfl, _, exec_lxi .hl w s, rfl, memoryKept_of_mem rfl⟩,
    ⟨rfl, rfl, _, exec_lxi .sp w s, rfl, memoryKept_of_mem rfl⟩⟩

/-! ### XCHG (R142) -/

theorem exec_xchg (s : State) :
    exec .xchg s = .next { s with h := s.d, l := s.e, d := s.h, e := s.l, pc := s.pc + 1 } := rfl

/-- Settles O9. -/
theorem xchgExchangesPairs : Obligations.XchgExchangesPairs := by
  intro s
  exact ⟨rfl, rfl, _, exec_xchg s, rfl, memoryKept_of_mem rfl⟩

end Sys2Proof.Machine
end

section
/-! ## What the arithmetic instructions write (41_arithmetic.md R150 to R166) -/

namespace Sys2Proof.Machine

/-- What holds of the one state an instruction completes in holds of its completion. -/
theorem Completes.of_eq {i : Instr} {s u : State} {bytes : List Byte} {cost : Nat} {post : State → Prop}
    (h : Completes i s bytes cost (· = u)) (hu : post u) : Completes i s bytes cost post := by
  obtain ⟨hbytes, hcost, t, hexec, rfl⟩ := h
  exact ⟨hbytes, hcost, t, hexec, hu⟩

/-- Writing A and the flags after the PC advance has the accumulator's frame. -/
theorem accumulatorFrame_setAF (s : State) (n : Nat) (r : Byte × Flags) :
    AccumulatorFrame n s ((s.advance n).setAF r) :=
  ⟨rfl, rfl, memoryKept_of_mem rfl⟩

/-! ### ADD, ADI, ADC and ACI (R153 to R156) -/

theorem completes_add (r : RegCode) (s : State) :
    Completes (Instr.add r) s [0b10000#5 ++ r.bits] (if r = .m then 7 else 4)
      (· = (s.advance 1).setAF (add8 s.a (s.readCode r) false s.flags)) := by
  cases r <;> exact ⟨rfl, rfl, _, rfl, rfl⟩

theorem completes_adc (r : RegCode) (s : State) :
    Completes (Instr.adc r) s [0b10001#5 ++ r.bits] (if r = .m then 7 else 4)
      (· = (s.advance 1).setAF (add8 s.a (s.readCode r) s.flags.cy s.flags)) := by
  cases r <;> exact ⟨rfl, rfl, _, rfl, rfl⟩

theorem completes_adi (n : Byte) (s : State) :
    Completes (.adi n) s [0xC6, n] 7 (· = (s.advance 2).setAF (add8 s.a n false s.flags)) :=
  ⟨rfl, rfl, _, rfl, rfl⟩

theorem completes_aci (n : Byte) (s : State) :
    Completes (.aci n) s [0xCE, n] 7 (· = (s.advance 2).setAF (add8 s.a n s.flags.cy s.flags)) :=
  ⟨rfl, rfl, _, rfl, rfl⟩

/-- Settles O10: the four forms differ in the operand and the carry-in alone. -/
theorem additionSetsResultAndFlags : Obligations.AdditionSetsResultAndFlags := by
  intro r n s
  exact ⟨(completes_add r s).of_eq ⟨sumOf_add8 s.a _ _ s.flags, accumulatorFrame_setAF s 1 _⟩,
    (completes_adi n s).of_eq ⟨sumOf_add8 s.a _ _ s.flags, accumulatorFrame_setAF s 2 _⟩,
    (completes_adc r s).of_eq ⟨sumOf_add8 s.a _ _ s.flags, accumulatorFrame_setAF s 1 _⟩,
    (completes_aci n s).of_eq ⟨sumOf_add8 s.a _ _ s.flags, accumulatorFrame_setAF s 2 _⟩⟩

/-! ### SUB, SUI, SBB and SBI (R157 to R160) -/

theorem completes_sub (r : RegCode) (s : State) :
    Completes (Instr.sub r) s [0b10010#5 ++ r.bits] (if r = .m then 7 else 4)
      (· = (s.advance 1).setAF (sub8 s.a (s.readCode r) false s.flags)) := by
  cases r <;> exact ⟨rfl, rfl, _, rfl, rfl⟩

theorem completes_sbb (r : RegCode) (s : State) :
    Completes (Instr.sbb r) s [0b10011#5 ++ r.bits] (if r = .m then 7 else 4)
      (· = (s.advance 1).setAF (sub8 s.a (s.readCode r) s.flags.cy s.flags)) := by
  cases r <;> exact ⟨rfl, rfl, _, rfl, rfl⟩

theorem completes_sui (n : Byte) (s : State) :
    Completes (.sui n) s [0xD6, n] 7 (· = (s.advance 2).setAF (sub8 s.a n false s.flags)) :=
  ⟨rfl, rfl, _, rfl, rfl⟩

theorem completes_sbi (n : Byte) (s : State) :
    Completes (.sbi n) s [0xDE, n] 7 (· = (s.advance 2).setAF (sub8 s.a n s.flags.cy s.flags)) :=
  ⟨rfl, rfl, _, rfl, rfl⟩

/-- Settles O11: the four forms differ in the operand and the borrow-in alone. -/
theorem subtractionSetsResultAndFlags : Obligations.SubtractionSetsResultAndFlags := by
  intro r n s
  exact ⟨(completes_sub r s).of_eq ⟨differenceOf_sub8 s.a _ _ s.flags, accumulatorFrame_setAF s 1 _⟩,
    (completes_sui n s).of_eq ⟨differenceOf_sub8 s.a _ _ s.flags, accumulatorFrame_setAF s 2 _⟩,
    (completes_sbb r s).of_eq ⟨differenceOf_sub8 s.a _ _ s.flags, accumulatorFrame_setAF s 1 _⟩,
    (completes_sbi n s).of_eq ⟨differenceOf_sub8 s.a _ _ s.flags, accumulatorFrame_setAF s 2 _⟩⟩

/-! ### INR and DCR (R161, R162) -/

/-- The operand and the flags are written to the state before, with M's address formed from its H:L. -/
theorem completes_inr (r : RegCode) (s : State) :
    Completes (Instr.inr r) s [0b00#2 ++ r.bits ++ 0b100#3] (if r = .m then 10 else 5)
      (· = ((s.setFlags (inc8 (s.readCode r) s.flags).2).advance 1).writeCode r (inc8 (s.readCode r) s.flags).1) := by
  cases r <;> exact ⟨rfl, rfl, _, rfl, rfl⟩

theorem completes_dcr (r : RegCode) (s : State) :
    Completes (Instr.dcr r) s [0b00#2 ++ r.bits ++ 0b101#3] (if r = .m then 10 else 5)
      (· = ((s.setFlags (dec8 (s.readCode r) s.flags).2).advance 1).writeCode r (dec8 (s.readCode r) s.flags).1) := by
  cases r <;> exact ⟨rfl, rfl, _, rfl, rfl⟩

/-- A form that writes v to its operand and f to the flags completes, for a register, with v in it, f in the flags, and
nothing else changed but PC. -/
theorem Completes.register_and_flags {i : Instr} {s : State} {bytes : List Byte} {r : RegCode} {v : Byte} {f : Flags}
    {post : State → Prop}
    (h : Completes i s bytes (if r = .m then 10 else 5) (· = ((s.setFlags f).advance 1).writeCode r v)) (hr : r ≠ .m)
    (hpost : ∀ t : State, t.readCode r = v → t.flags = f → RegisterFrame r 1 { s with flags := f } t → post t) :
    Completes i s bytes 5 post := by
  rw [if_neg hr] at h
  exact h.of_eq (hpost _ (State.readCode_writeCode_same _ v hr) (State.writeCode_flags _ r v)
    (registerFrame_writeCode (s.setFlags f) 1 v hr))

/-- The byte at H:L and the flags written after the PC advance: one byte is stored, and memory, the flags and PC alone
differ. -/
theorem storesByte_setFlags_writeCode (s : State) (f : Flags) (v : Byte) :
    StoresByte s (((s.setFlags f).advance 1).writeCode .m v) (joinBytes s.h s.l) v ∧
      ((s.setFlags f).advance 1).writeCode .m v =
        { s with mem := (((s.setFlags f).advance 1).writeCode .m v).mem, flags := f, pc := s.pc + 1 } :=
  ⟨storesByte_of_mem rfl, rfl⟩

/-- Settles O13. -/
theorem inrIncrementsOperand : Obligations.InrIncrementsOperand := by
  intro r s
  constructor
  · refine fun hr => (completes_inr r s).register_and_flags hr fun t hread hflags hframe => ?_
    obtain ⟨hres, hszp, hac, hcy⟩ := inc8_spec (s.readCode r) s.flags
    rw [hread, hflags]
    exact ⟨hres, hszp, hac, hcy, hframe⟩
  · refine (completes_inr .m s).of_eq ?_
    obtain ⟨hres, hszp, hac, hcy⟩ := inc8_spec (s.readCode .m) s.flags
    exact ⟨_, hres, hszp, hac, hcy, storesByte_setFlags_writeCode s _ _⟩

/-- Settles O14. -/
theorem dcrDecrementsOperand : Obligations.DcrDecrementsOperand := by
  intro r s
  constructor
  · refine fun hr => (completes_dcr r s).register_and_flags hr fun t hread hflags hframe => ?_
    obtain ⟨hres, hszp, hac, hcy⟩ := dec8_spec (s.readCode r) s.flags
    rw [hread, hflags]
    exact ⟨hres, hszp, hac, hcy, hframe⟩
  · refine (completes_dcr .m s).of_eq ?_
    obtain ⟨hres, hszp, hac, hcy⟩ := dec8_spec (s.readCode .m) s.flags
    exact ⟨_, hres, hszp, hac, hcy, storesByte_setFlags_writeCode s _ _⟩

/-! ### INX and DCX (R163, R164) -/

theorem completes_inx (p : Pair) (s : State) :
    Completes (Instr.inx p) s [0b00#2 ++ p.bits ++ 0b0011#4] 5
      (· = (s.advance 1).writePair p (s.readPair p + 1)) := by
  cases p <;> exact ⟨rfl, rfl, _, rfl, rfl⟩

theorem completes_dcx (p : Pair) (s : State) :
    Completes (Instr.dcx p) s [0b00#2 ++ p.bits ++ 0b1011#4] 5
      (· = (s.advance 1).writePair p (s.readPair p - 1)) := by
  cases p <;> exact ⟨rfl, rfl, _, rfl, rfl⟩

theorem word_add_one_toNat (w : Word) : (w + 1).toNat = (w.toNat + 1) % 65536 :=
  BitVec.toNat_add w 1

theorem word_sub_one_toNat (w : Word) : (w - 1).toNat = (w.toNat + 65535) % 65536 := by
  bv_omega

/-- Settles O15: the pair reads back what was written, and the frame is the pair's. -/
theorem inxDcxCountPairs : Obligations.InxDcxCountPairs := by
  intro p s
  refine ⟨(completes_inx p s).of_eq ⟨?_, pairFrame_writePair s p 1 _⟩,
    (completes_dcx p s).of_eq ⟨?_, pairFrame_writePair s p 1 _⟩⟩
  · rw [State.readPair_writePair_same, word_add_one_toNat]
  · rw [State.readPair_writePair_same, word_sub_one_toNat]

/-! ### DAD (R165) -/

/-- Both operands are read in the state before; CY is bit 16 of their sum. -/
theorem completes_dad (p : Pair) (s : State) :
    Completes (Instr.dad p) s [0b00#2 ++ p.bits ++ 0b1001#4] 10
      (· = ((s.setFlags { s.flags with cy := (s.hl.toNat + (s.readPair p).toNat).testBit 16 }).advance 1).writePair .hl
        (BitVec.ofNat 16 (s.hl.toNat + (s.readPair p).toNat))) := by
  cases p <;> exact ⟨rfl, rfl, _, rfl, rfl⟩

theorem testBit_sixteen_word_add (x y : Word) :
    (x.toNat + y.toNat).testBit 16 = true ↔ 65536 ≤ x.toNat + y.toNat := by
  rw [testBit_sixteen (Nat.add_lt_add x.isLt y.isLt), decide_eq_true_iff]

/-- Settles O16: H:L reads back the sum modulo 65536, and bit 16 of the sum of two words is its carry. -/
theorem dadAddsPairToHl : Obligations.DadAddsPairToHl := by
  intro p s
  refine (completes_dad p s).of_eq ⟨?_, testBit_sixteen_word_add s.hl (s.readPair p), rfl, memoryKept_of_mem rfl⟩
  calc
    _ = (BitVec.ofNat 16 (s.hl.toNat + (s.readPair p).toNat)).toNat :=
      congrArg BitVec.toNat (State.readPair_writePair_same _ .hl _)
    _ = (s.hl.toNat + (s.readPair p).toNat) % 65536 := BitVec.toNat_ofNat _ 16

/-! ### DAA (R166) -/

theorem completes_daa (s : State) : Completes .daa s [0x27] 4 (· = (s.advance 1).setAF (daa8 s.a s.flags)) :=
  ⟨rfl, rfl, _, rfl, rfl⟩

theorem signZeroParity_daa8 (a : Byte) (f : Flags) : SignZeroParity (daa8 a f).1 (daa8 a f).2 :=
  signZeroParity_szp _ _

/-- Settles O17. -/
theorem daaAdjustsAccumulator : Obligations.DaaAdjustsAccumulator := by
  intro s
  obtain ⟨hres, hcy, hac⟩ := daa8_spec s.a s.flags
  exact (completes_daa s).of_eq ⟨hres, hcy, hac, signZeroParity_daa8 s.a s.flags, accumulatorFrame_setAF s 1 _⟩

end Sys2Proof.Machine
end

section
/-! ## What the logical, compare, rotate and carry instructions write (42_logical.md R180 to R195) -/

namespace Sys2Proof.Machine

/-! ### ANA and ANI (R180 to R182) -/

theorem completes_ana (r : RegCode) (s : State) :
    Completes (Instr.ana r) s [0b10100#5 ++ r.bits] (if r = .m then 7 else 4)
      (· = (s.advance 1).setAF (and8 s.params.andAc s.a (s.readCode r) s.flags)) := by
  cases r <;> exact ⟨rfl, rfl, _, rfl, rfl⟩

theorem completes_ani (n : Byte) (s : State) :
    Completes (.ani n) s [0xE6, n] 7 (· = (s.advance 2).setAF (and8 s.params.andAc s.a n s.flags)) :=
  ⟨rfl, rfl, _, rfl, rfl⟩

/-- Settles O18: the two forms differ in the operand alone. -/
theorem andSetsResultAndFlags : Obligations.AndSetsResultAndFlags := by
  intro r n s
  exact ⟨(completes_ana r s).of_eq ⟨conjunctionOf_and8 _ s.a _ s.flags, accumulatorFrame_setAF s 1 _⟩,
    (completes_ani n s).of_eq ⟨conjunctionOf_and8 _ s.a _ s.flags, accumulatorFrame_setAF s 2 _⟩⟩

/-! ### XRA, XRI, ORA and ORI (R183 to R186) -/

theorem completes_xra (r : RegCode) (s : State) :
    Completes (Instr.xra r) s [0b10101#5 ++ r.bits] (if r = .m then 7 else 4)
      (· = xorInto (s.readCode r) (s.advance 1)) := by
  cases r <;> exact ⟨rfl, rfl, _, rfl, rfl⟩

theorem completes_ora (r : RegCode) (s : State) :
    Completes (Instr.ora r) s [0b10110#5 ++ r.bits] (if r = .m then 7 else 4)
      (· = orInto (s.readCode r) (s.advance 1)) := by
  cases r <;> exact ⟨rfl, rfl, _, rfl, rfl⟩

theorem completes_xri (n : Byte) (s : State) :
    Completes (.xri n) s [0xEE, n] 7 (· = xorInto n (s.advance 2)) :=
  ⟨rfl, rfl, _, rfl, rfl⟩

theorem completes_ori (n : Byte) (s : State) :
    Completes (.ori n) s [0xF6, n] 7 (· = orInto n (s.advance 2)) :=
  ⟨rfl, rfl, _, rfl, rfl⟩

/-- A logical result written with its flags after the PC advance: the result is in A, the flags are the result's, and
the frame is the accumulator's. -/
theorem logicFlags_and_accumulatorFrame_setAF (s : State) (n : Nat) (v : Byte) :
    ((s.advance n).setAF (v, s.flags.logic v)).a = v ∧
      LogicFlags v ((s.advance n).setAF (v, s.flags.logic v)).flags ∧
      AccumulatorFrame n s ((s.advance n).setAF (v, s.flags.logic v)) :=
  ⟨rfl, logicFlags_logic s.flags v, accumulatorFrame_setAF s n _⟩

/-- Settles O19: the four forms differ in the operand and the result alone. -/
theorem xorOrSetResultAndFlags : Obligations.XorOrSetResultAndFlags := by
  intro r n s
  exact ⟨(completes_xra r s).of_eq (logicFlags_and_accumulatorFrame_setAF s 1 _),
    (completes_xri n s).of_eq (logicFlags_and_accumulatorFrame_setAF s 2 _),
    (completes_ora r s).of_eq (logicFlags_and_accumulatorFrame_setAF s 1 _),
    (completes_ori n s).of_eq (logicFlags_and_accumulatorFrame_setAF s 2 _)⟩

/-! ### CMP and CPI (R187, R188) -/

theorem completes_cmp (r : RegCode) (s : State) :
    Completes (Instr.cmp r) s [0b10111#5 ++ r.bits] (if r = .m then 7 else 4)
      (· = (s.advance 1).setFlags (sub8 s.a (s.readCode r) false s.flags).2) := by
  cases r <;> exact ⟨rfl, rfl, _, rfl, rfl⟩

theorem completes_cpi (n : Byte) (s : State) :
    Completes (.cpi n) s [0xFE, n] 7 (· = (s.advance 2).setFlags (sub8 s.a n false s.flags).2) :=
  ⟨rfl, rfl, _, rfl, rfl⟩

/-- The flags of a subtraction are those of its difference, which compare the operands; the difference itself is not
stored. -/
theorem sub8_flags_compare (a b : Byte) (f : Flags) :
    (∃ diff : Byte, DifferenceOf a b false diff (sub8 a b false f).2) ∧
      ((sub8 a b false f).2.z = true ↔ a = b) ∧ ((sub8 a b false f).2.cy = true ↔ a.toNat < b.toNat) :=
  ⟨⟨_, differenceOf_sub8 a b false f⟩, sub8_compare a b f⟩

/-- Settles O12: the two forms differ in the operand alone. -/
theorem compareSetsFlagsOnly : Obligations.CompareSetsFlagsOnly := by
  intro r n s
  constructor
  · obtain ⟨hdiff, hz, hcy⟩ := sub8_flags_compare s.a (s.readCode r) s.flags
    exact (completes_cmp r s).of_eq ⟨hdiff, hz, hcy, rfl, memoryKept_of_mem rfl⟩
  · obtain ⟨hdiff, hz, hcy⟩ := sub8_flags_compare s.a n s.flags
    exact (completes_cpi n s).of_eq ⟨hdiff, hz, hcy, rfl, memoryKept_of_mem rfl⟩

/-! ### RLC, RRC, RAL and RAR (R189 to R192) -/

theorem completes_rlc (s : State) : Completes .rlc s [0x07] 4 (· = rotateLeft (s.advance 1)) :=
  ⟨rfl, rfl, _, rfl, rfl⟩

theorem completes_rrc (s : State) : Completes .rrc s [0x0F] 4 (· = rotateRight (s.advance 1)) :=
  ⟨rfl, rfl, _, rfl, rfl⟩

theorem completes_ral (s : State) : Completes .ral s [0x17] 4 (· = rotateLeftCarry (s.advance 1)) :=
  ⟨rfl, rfl, _, rfl, rfl⟩

theorem completes_rar (s : State) : Completes .rar s [0x1F] 4 (· = rotateRightCarry (s.advance 1)) :=
  ⟨rfl, rfl, _, rfl, rfl⟩

/-- Writing A and CY after the PC advance keeps the other flags and has the accumulator's frame. -/
theorem flags_and_accumulatorFrame_setACarry (s : State) (n : Nat) (v : Byte) (c : Bool) :
    ((s.advance n).setACarry v c).flags = { s.flags with cy := c } ∧
      AccumulatorFrame n s ((s.advance n).setACarry v c) :=
  ⟨rfl, accumulatorFrame_setAF s n _⟩

/-- Settles O20: each form is one write of A and CY, whose bits are those of the rotated byte. -/
theorem rotatesMoveBitsAndCarry : Obligations.RotatesMoveBitsAndCarry := by
  intro s
  have hbits := fun (i : Nat) (hi : i < 8) => rotate_bits s.a s.flags.cy hi
  simp only [forall_and] at hbits
  obtain ⟨hrlc, hrrc, hral, hrar⟩ := hbits
  exact ⟨(completes_rlc s).of_eq ⟨hrlc, flags_and_accumulatorFrame_setACarry s 1 _ _⟩,
    (completes_rrc s).of_eq ⟨hrrc, flags_and_accumulatorFrame_setACarry s 1 _ _⟩,
    (completes_ral s).of_eq ⟨hral, flags_and_accumulatorFrame_setACarry s 1 _ _⟩,
    (completes_rar s).of_eq ⟨hrar, flags_and_accumulatorFrame_setACarry s 1 _ _⟩⟩

/-! ### CMA, CMC and STC (R193 to R195) -/

theorem completes_cma (s : State) : Completes .cma s [0x2F] 4 (· = (s.advance 1).setA (0xFF - s.a)) :=
  ⟨rfl, rfl, _, rfl, rfl⟩

theorem completes_cmc (s : State) :
    Completes .cmc s [0x3F] 4 (· = (s.advance 1).setFlags { s.flags with cy := !s.flags.cy }) :=
  ⟨rfl, rfl, _, rfl, rfl⟩

theorem completes_stc (s : State) :
    Completes .stc s [0x37] 4 (· = (s.advance 1).setFlags { s.flags with cy := true }) :=
  ⟨rfl, rfl, _, rfl, rfl⟩

/-- Subtracting a byte from 0xFF never borrows. -/
theorem byte_complement_toNat (a : Byte) : (0xFF - a).toNat = 255 - a.toNat := by
  bv_omega

/-- Settles O21. -/
theorem complementsAndCarryInstructions : Obligations.ComplementsAndCarryInstructions := by
  intro s
  exact ⟨(completes_cma s).of_eq ⟨byte_complement_toNat s.a, rfl, rfl, rfl, memoryKept_of_mem rfl⟩,
    (completes_cmc s).of_eq ⟨rfl, memoryKept_of_mem rfl⟩,
    (completes_stc s).of_eq ⟨rfl, memoryKept_of_mem rfl⟩⟩

end Sys2Proof.Machine
end

section
/-! ## What the branch instructions write (43_branch.md R200 to R208) -/

namespace Sys2Proof.Machine

/-! ### A condition decides the cost and the state together (R200) -/

section Conditional

variable {i : Instr} {s u v : State} {bytes : List Byte} {cc : Cond} {taken notTaken : Nat} {post : State → Prop}
  (h : Completes i s bytes (condCycles cc taken notTaken s) (· = if s.flags.cond cc then u else v))

include h

/-- Where the condition holds, the taken cost is paid and the taken state reached. -/
theorem Completes.of_holds (hcc : Holds s.flags cc) (hu : post u) : Completes i s bytes taken post := by
  have hcond : s.flags.cond cc = true := (cond_iff_holds s.flags cc).mpr hcc
  simp only [condCycles, if_pos hcond] at h
  exact h.of_eq hu

/-- Where the condition fails, the other cost is paid and the other state reached. -/
theorem Completes.of_not_holds (hcc : ¬ Holds s.flags cc) (hv : post v) : Completes i s bytes notTaken post := by
  have hcond : ¬ s.flags.cond cc = true := mt (cond_iff_holds s.flags cc).mp hcc
  simp only [condCycles, if_neg hcond] at h
  exact h.of_eq hv

end Conditional

/-- The PC advance alone, which is all that a branch not taken does, keeps everything else. -/
theorem advance_eq_and_memoryKept (s : State) (n : Nat) :
    s.advance n = { s with pc := s.pc + BitVec.ofNat 16 n } ∧ MemoryKept s (s.advance n) :=
  ⟨rfl, memoryKept_of_mem rfl⟩

/-! ### JMP, Jcc and PCHL (R201, R202, R208) -/

/-- A jump after the PC advance changes PC alone, and the advance does not show in it. -/
theorem jumpTo_advance (s : State) (n : Nat) (w : Word) :
    jumpTo w (s.advance n) = { s with pc := w } ∧ MemoryKept s (jumpTo w (s.advance n)) :=
  ⟨rfl, memoryKept_of_mem rfl⟩

theorem completes_jmp (w : Word) (s : State) :
    Completes (.jmp w) s [0xC3, lowByte w, highByte w] 10 (· = jumpTo w (s.advance 3)) :=
  ⟨rfl, rfl, _, rfl, rfl⟩

theorem completes_pchl (s : State) : Completes .pchl s [0xE9] 5 (· = jumpTo s.hl (s.advance 1)) :=
  ⟨rfl, rfl, _, rfl, rfl⟩

theorem completes_jcc (cc : Cond) (w : Word) (s : State) :
    Completes (Instr.jcc cc w) s [0b11#2 ++ cc.bits ++ 0b010#3, lowByte w, highByte w]
      (condCycles cc 10 s.params.jccNotTakenCycles s)
      (· = if s.flags.cond cc then jumpTo w (s.advance 3) else s.advance 3) := by
  cases cc <;> exact ⟨rfl, rfl, _, rfl, rfl⟩

/-- Settles O22: both forms are one jump, to the immediate or to H:L. -/
theorem unconditionalJumps : Obligations.UnconditionalJumps := by
  intro w s
  exact ⟨(completes_jmp w s).of_eq (jumpTo_advance s 3 w), (completes_pchl s).of_eq (jumpTo_advance s 1 s.hl)⟩

/-- Settles O23. -/
theorem conditionalJumps : Obligations.ConditionalJumps := by
  intro cc w s
  exact ⟨fun hcc => (completes_jcc cc w s).of_holds hcc (jumpTo_advance s 3 w),
    fun hcc => (completes_jcc cc w s).of_not_holds hcc (advance_eq_and_memoryKept s 3)⟩

/-! ### CALL and Ccc (R203, R204) -/

theorem completes_call (w : Word) (s : State) :
    Completes (.call w) s [0xCD, lowByte w, highByte w] 17 (· = callTo w (s.advance 3)) :=
  ⟨rfl, rfl, _, rfl, rfl⟩

theorem completes_ccc (cc : Cond) (w : Word) (s : State) :
    Completes (Instr.ccc cc w) s [0b11#2 ++ cc.bits ++ 0b100#3, lowByte w, highByte w] (condCycles cc 17 11 s)
      (· = if s.flags.cond cc then callTo w (s.advance 3) else s.advance 3) := by
  cases cc <;> exact ⟨rfl, rfl, _, rfl, rfl⟩

/-- Settles O24: CALL and a taken Ccc are one call from the address after their three bytes. -/
theorem callsPushReturnAddress : Obligations.CallsPushReturnAddress := by
  intro cc w s
  exact ⟨(completes_call w s).of_eq (pushes_callTo w s),
    fun hcc => (completes_ccc cc w s).of_holds hcc (pushes_callTo w s),
    fun hcc => (completes_ccc cc w s).of_not_holds hcc (advance_eq_and_memoryKept s 3)⟩

/-! ### RET and Rcc (R205, R206) -/

theorem completes_ret (s : State) : Completes .ret s [0xC9] 10 (· = returnFromCall (s.advance 1)) :=
  ⟨rfl, rfl, _, rfl, rfl⟩

theorem completes_rcc (cc : Cond) (s : State) :
    Completes (Instr.rcc cc) s [0b11#2 ++ cc.bits ++ 0b000#3] (condCycles cc 11 5 s)
      (· = if s.flags.cond cc then returnFromCall (s.advance 1) else s.advance 1) := by
  cases cc <;> exact ⟨rfl, rfl, _, rfl, rfl⟩

/-- Settles O25: RET and a taken Rcc are one return, which writes PC and SP alone. -/
theorem returnsPopProgramCounter : Obligations.ReturnsPopProgramCounter := by
  intro cc s
  have hkept : MemoryKept s (returnFromCall (s.advance 1)) := memoryKept_of_mem rfl
  exact ⟨(completes_ret s).of_eq ⟨returnFromCall_advance s 1, hkept⟩,
    fun hcc => (completes_rcc cc s).of_holds hcc ⟨returnFromCall_advance s 1, hkept⟩,
    fun hcc => (completes_rcc cc s).of_not_holds hcc (advance_eq_and_memoryKept s 1)⟩

/-! ### RST (R207) -/

theorem completes_rst (n : Fin 8) (s : State) :
    Completes (Instr.rst n) s [0b11#2 ++ BitVec.ofNat 3 n.val ++ 0b111#3] 11 (· = restart n (s.advance 1)) := by
  fin_cases n <;> exact ⟨rfl, rfl, _, rfl, rfl⟩

/-- A restart of one byte pushes the address after it and jumps to its vector. -/
theorem pushes_restart (n : Fin 8) (s : State) :
    Pushes (s.pc + 1) (restartVector n) s (restart n (s.advance 1)) :=
  pushes_push16 s 1 (s.pc + 1) (restartVector n)

/-- Settles O26. -/
theorem restartsPushAndVector : Obligations.RestartsPushAndVector := by
  intro n s
  exact (completes_rst n s).of_eq (pushes_restart n s)

end Sys2Proof.Machine
end

section
/-! ## What the stack and control instructions write (44_stack_io_control.md R220 to R231) -/

namespace Sys2Proof

/-- The code of a pair in PUSH and POP, where PSW takes the place of SP (R103). -/
def Pair.stackCode : Pair → StackPair
  | .bc => .bc
  | .de => .de
  | .hl => .hl
  | .sp => .psw

end Sys2Proof

namespace Sys2Proof.Machine

/-! ### PUSH and POP of a pair (R220, R222) -/

/-- A push of a pair after the PC advance pushes the pair and goes on behind the instruction. -/
theorem pushes_pushPair_advance (s : State) (p : Pair) (n : Nat) :
    Pushes (s.readPair p) (s.pc + BitVec.ofNat 16 n) s (pushPair p (s.advance n)) := by
  have hread : (s.advance n).readPair p = s.readPair p := by cases p <;> rfl
  rw [pushPair, hread]
  exact pushes_advance s n (s.readPair p)

/-- A pop of a pair after the PC advance: the pair gets the byte at SP + 1 over the byte at SP, and SP rises by 2. -/
theorem popPair_advance (s : State) (p : Pair) (n : Nat) :
    popPair p (s.advance n) =
      { s with sp := s.sp + 2, pc := s.pc + BitVec.ofNat 16 n }.writePair p
        (joinBytes (s.memRead (s.sp + 1)) (s.memRead s.sp)) := by
  rw [← add_one_one]
  rfl

theorem memoryKept_popPair_advance (s : State) (p : Pair) (n : Nat) : MemoryKept s (popPair p (s.advance n)) :=
  memoryKept_of_mem (State.writePair_mem _ p _)

/-- PUSH of each pair but SP, in whose place PSW stands. -/
theorem completes_push {p : Pair} (hp : p ≠ .sp) (s : State) :
    Completes (Instr.push p.stackCode) s [0b11#2 ++ p.stackCode.bits ++ 0b0101#4] 11
      (· = pushPair p (s.advance 1)) := by
  cases p with
  | sp => exact absurd rfl hp
  | _ => exact ⟨rfl, rfl, _, rfl, rfl⟩

/-- POP of each pair but SP, in whose place PSW stands. -/
theorem completes_pop {p : Pair} (hp : p ≠ .sp) (s : State) :
    Completes (Instr.pop p.stackCode) s [0b11#2 ++ p.stackCode.bits ++ 0b0001#4] 10 (· = popPair p (s.advance 1)) := by
  cases p with
  | sp => exact absurd rfl hp
  | _ => exact ⟨rfl, rfl, _, rfl, rfl⟩

/-- Settles O27: the forms differ in the pair alone; a pop's two bytes are the halves of the word it writes. -/
theorem pushAndPopPairs : Obligations.PushAndPopPairs := by
  intro s
  have hbc : Pair.bc ≠ .sp := by decide
  have hde : Pair.de ≠ .sp := by decide
  have hhl : Pair.hl ≠ .sp := by decide
  refine ⟨(completes_push hbc s).of_eq (pushes_pushPair_advance s .bc 1),
    (completes_push hde s).of_eq (pushes_pushPair_advance s .de 1),
    (completes_push hhl s).of_eq (pushes_pushPair_advance s .hl 1),
    (completes_pop hbc s).of_eq ⟨?_, memoryKept_popPair_advance s .bc 1⟩,
    (completes_pop hde s).of_eq ⟨?_, memoryKept_popPair_advance s .de 1⟩,
    (completes_pop hhl s).of_eq ⟨?_, memoryKept_popPair_advance s .hl 1⟩⟩
  all_goals
    rw [popPair_advance, State.writePair, highByte_joinBytes, lowByte_joinBytes]
    rfl

/-! ### XTHL and SPHL (R224, R225) -/

theorem completes_xthl (s : State) : Completes .xthl s [0xE3] 18 (· = exchangeTopHL (s.advance 1)) :=
  ⟨rfl, rfl, _, rfl, rfl⟩

theorem completes_sphl (s : State) : Completes .sphl s [0xF9] 5 (· = loadSpHL (s.advance 1)) :=
  ⟨rfl, rfl, _, rfl, rfl⟩

/-- An exchange after the PC advance: L and H get the bytes at SP and SP + 1 as they were before the store, whether or
not that store is dropped. -/
theorem exchangeTopHL_advance (s : State) (n : Nat) :
    exchangeTopHL (s.advance n) =
      { (s.advance n).memWrite2 s.sp s.hl with l := s.memRead s.sp, h := s.memRead (s.sp + 1) } := by
  have htop : (s.advance n).top16 = joinBytes (s.memRead (s.sp + 1)) (s.memRead s.sp) := rfl
  rw [exchangeTopHL, htop, State.writePair, highByte_joinBytes, lowByte_joinBytes]
  rfl

/-- An exchange stores the old H:L at SP. -/
theorem storesWord_exchangeTopHL_advance (s : State) (n : Nat) :
    StoresWord s (exchangeTopHL (s.advance n)) s.sp s.hl :=
  storesWord_congr (storesWord_memWrite2 (s.advance n) s.sp s.hl) rfl (State.writePair_mem _ .hl _)

/-- Settles O29: HL is loaded from the bytes read before the store, so a store dropped in ROM does not matter. -/
theorem xthlAndSphl : Obligations.XthlAndSphl := by
  intro s
  constructor
  · refine (completes_xthl s).of_eq ⟨?_, storesWord_exchangeTopHL_advance s 1⟩
    rw [exchangeTopHL_advance]
    rfl
  · exact (completes_sphl s).of_eq ⟨rfl, memoryKept_of_mem rfl⟩

/-! ### EI and DI (R228, R229, R285) -/

/-- The step of a fetched instruction that completes and leaves the machine running is the boundary of its cost. -/
theorem Completes.step_eq {i : Instr} {s u : State} {bytes : List Byte} {cost : Nat}
    (h : Completes i s bytes cost (· = u)) (hrun : s.status = .running) (hhalt : s.halted = false)
    (hfetch : fetch s = i) (hu : u.status = .running) : step s = .next (boundary cost u) := by
  obtain ⟨-, rfl, t, hexec, rfl⟩ := h
  rw [step_running hrun hhalt, hfetch, hexec, afterExec, finishStep_of_running hu]

/-- In PreMid a boundary that reaches T_MID is the mid-screen event (R254). -/
theorem boundary_midScreen {cost : Nat} {s : State} (hp : s.phase = .preMid) (hmid : s.params.tMid ≤ s.cyc + cost) :
    boundary cost s = { offer 1 (s.addCycles cost) with phase := .preEnd } := by
  obtain ⟨-, hlt⟩ | ⟨-, -, h⟩ | ⟨hp', -, -⟩ := boundary_cases cost s
  · rw [hp] at hlt
    exact absurd hmid hlt.not_ge
  · exact h
  · simp [hp] at hp'

/-- With IE = 1 the mid-screen event delivers interrupt 1 (R256, R257). -/
theorem delivers_boundary_midScreen {cost : Nat} {s : State} (hie : s.ie = true) (hp : s.phase = .preMid)
    (hmid : s.params.tMid ≤ s.cyc + cost) :
    Delivers 0x0008 { s with cyc := s.cyc + cost, phase := .preEnd } (boundary cost s) := by
  rw [boundary_midScreen hp hmid, offer_of_ie (by simpa using hie)]
  exact delivers_deliver 1 { s with cyc := s.cyc + cost, phase := .preEnd }

/-- With IE = 0 the mid-screen event changes the phase alone, and the interrupt is lost (R256). -/
theorem boundary_midScreen_of_not_ie {cost : Nat} {s : State} (hie : s.ie = false) (hp : s.phase = .preMid)
    (hmid : s.params.tMid ≤ s.cyc + cost) :
    boundary cost s = { s with cyc := s.cyc + cost, phase := .preEnd } := by
  rw [boundary_midScreen hp hmid, offer_of_not_ie (by simpa using hie), State.addCycles]

theorem completes_ei (s : State) : Completes .ei s [0xFB] 4 (· = { s with ie := true, pc := s.pc + 1 }) :=
  ⟨rfl, rfl, _, rfl, rfl⟩

theorem completes_di (s : State) : Completes .di s [0xF3] 4 (· = { s with ie := false, pc := s.pc + 1 }) :=
  ⟨rfl, rfl, _, rfl, rfl⟩

/-- The opcode byte at PC selects the instruction fetched. -/
theorem fetch_of_opcode {s : State} {op : Byte} (h : s.memRead s.pc = op) :
    fetch s = decodeBytes op (s.memRead (s.pc + 1)) (s.memRead (s.pc + 2)) := by
  rw [fetch, h]

/-- Settles O32: the step is the boundary at the state with the new IE, and that IE decides the mid-screen event. -/
theorem eiAndDiTakeEffectAtOnce : Obligations.EiAndDiTakeEffectAtOnce := by
  intro s
  refine ⟨(completes_ei s).of_eq ⟨rfl, memoryKept_of_mem rfl⟩, (completes_di s).of_eq ⟨rfl, memoryKept_of_mem rfl⟩,
    fun hrun hhalt hop => ?_, fun hrun hhalt hop => ?_⟩
  · have hstep := (completes_ei s).step_eq hrun hhalt (fetch_of_opcode hop) hrun
    exact ⟨hstep, fun hp hmid => ⟨_, hstep, delivers_boundary_midScreen rfl hp hmid⟩⟩
  · have hstep := (completes_di s).step_eq hrun hhalt (fetch_of_opcode hop) hrun
    exact ⟨hstep, fun hp hmid => hstep.trans (congrArg Host.Outcome.next (boundary_midScreen_of_not_ie rfl hp hmid))⟩

/-! ### HLT and NOP (R230, R231) -/

theorem completes_hlt (s : State) : Completes .hlt s [0x76] 7 (· = halt (s.advance 1)) := ⟨rfl, rfl, _, rfl, rfl⟩

theorem completes_nop (s : State) : Completes .nop s [0x00] 4 (· = noEffect (s.advance 1)) := ⟨rfl, rfl, _, rfl, rfl⟩

/-- Settles O33. -/
theorem haltAndNop : Obligations.HaltAndNop := by
  intro s
  exact ⟨(completes_hlt s).of_eq ⟨rfl, memoryKept_of_mem rfl⟩,
    (completes_nop s).of_eq (advance_eq_and_memoryKept s 1)⟩

end Sys2Proof.Machine
end

section
/-! ## The step of a faulted session, and the step that faults (60_exceptions.md R250 to R252) -/

namespace Sys2Proof.Machine

/-- Settles O36. -/
theorem faultedSessionHasNoStep : Obligations.FaultedSessionHasNoStep := by
  refine fun s pc op => ⟨step_faulted, step_faulted, fun hs t ht => ?_⟩
  obtain ⟨hrun, -⟩ := step_cases ht
  exact hs hrun

/-- An illegal opcode under UNDOC_POLICY = fault changes the status alone, whatever its operand (R250). -/
theorem exec_illegal_of_fault {s : State} (hu : s.params.undoc = .fault) {op : Byte} (w : Word)
    (hop : op ∈ ([0x08, 0x10, 0x18, 0x20, 0x28, 0x30, 0x38, 0xCB, 0xD9, 0xDD, 0xED, 0xFD] : List Byte)) :
    exec ((formOf op).instr w) s = .next { s with status := .faulted .unimplementedOpcode s.pc op } := by
  fin_cases hop <;> exact undocumented_of_fault hu _ _

/-- Settles O35: the machine loop adds nothing to the effect of an instruction that faults. -/
theorem illegalOpcodeStepFaults : Obligations.IllegalOpcodeStepFaults := by
  intro s hrun hhalt hu hop
  refine ⟨?_, rfl⟩
  rw [step_running hrun hhalt, fetch, decodeBytes_eq_instr, exec_illegal_of_fault hu _ hop, afterExec,
    finishStep_of_not_running (by simp)]

/-- Every documented instruction completes with the status it had (R252). -/
theorem exec_of_documented {i : Instr} (hi : i.documented = true) (s : State) :
    ∃ t, exec i s = .next t ∧ t.status = s.status := by
  obtain ⟨t, ht, he⟩ := exec_effect i s
  refine ⟨t, ht, he.status.resolve_right ?_⟩
  rintro ⟨hdoc, -⟩
  simp [hi] at hdoc

/-- A running machine has a next step, which leaves it running unless it fetches an illegal opcode under
UNDOC_POLICY = fault (R250, R252). -/
theorem step_of_running {s : State} (hrun : s.status = .running) :
    ∃ t, step s = .next t ∧
      (t.status = .running ∨ (s.halted = false ∧ (fetch s).documented = false ∧ s.params.undoc = .fault ∧
        ∃ op : Byte, t.status = .faulted .unimplementedOpcode s.pc op)) := by
  cases hhalt : s.halted
  · obtain ⟨u, hu, he⟩ := exec_effect (fetch s) s
    rw [step_running hrun hhalt, hu, afterExec]
    refine ⟨_, rfl, ?_⟩
    obtain hkeep | ⟨hdoc, hpol, op, hfault⟩ := he.status
    · have hur : u.status = .running := hkeep.trans hrun
      rw [finishStep_of_running hur]
      exact .inl ((boundary_effect _ u).status.trans hur)
    · rw [finishStep_of_not_running (by simp [hfault])]
      exact .inr ⟨rfl, hdoc, hpol, op, hfault⟩
  · exact ⟨_, step_halted hrun hhalt, .inl ((boundary_effect 7 s).status.trans hrun)⟩

/-- Settles O57. -/
theorem documentedInstructionsNeverFault : Obligations.DocumentedInstructionsNeverFault :=
  ⟨fun _ s hi => exec_of_documented hi s, fun _ hrun => step_of_running hrun⟩

end Sys2Proof.Machine
end

section
/-! ## The controller at a boundary (60_exceptions.md R253 to R257, R262, R264) -/

namespace Sys2Proof.Machine

/-- The counter value the controller waits for in the present phase (R254, R255). -/
def State.threshold (s : State) : Nat := if s.phase = .preMid then s.params.tMid else s.params.tEnd

theorem State.threshold_preMid {s : State} (hp : s.phase = .preMid) : s.threshold = s.params.tMid := if_pos hp

theorem State.threshold_preEnd {s : State} (hp : s.phase = .preEnd) : s.threshold = s.params.tEnd :=
  if_neg (by simp [hp])

/-- Below the threshold a boundary adds its cost and does nothing else (R254). -/
theorem boundary_of_lt_threshold {cost : Nat} {s : State} (h : s.cyc + cost < s.threshold) :
    boundary cost s = s.addCycles cost := by
  obtain ⟨e, -⟩ | ⟨hp, hle, -⟩ | ⟨hp, hle, -⟩ := boundary_cases cost s
  · exact e
  · rw [State.threshold_preMid hp] at h
    exact absurd hle h.not_ge
  · rw [State.threshold_preEnd hp] at h
    exact absurd hle h.not_ge

/-- In PreEnd a boundary that reaches T_END is the end-of-frame event (R254, R264). -/
theorem boundary_endOfFrame {cost : Nat} {s : State} (hp : s.phase = .preEnd)
    (hend : s.params.tEnd ≤ s.cyc + cost) :
    boundary cost s =
      { offer 2 (s.addCycles cost) with
        framebuffer := some (rasterize (offer 2 (s.addCycles cost))), cyc := 0, phase := .preMid,
        input := s.upcoming.headD s.input, upcoming := s.upcoming.tail } := by
  obtain ⟨-, hlt⟩ | ⟨hp', -, -⟩ | ⟨-, -, h⟩ := boundary_cases cost s
  · rw [hp] at hlt
    exact absurd hend hlt.not_ge
  · simp [hp] at hp'
  · exact h

/-- Settles O39: the state u after the offer at the end of frame is the one the boundary rasterizes. -/
theorem controllerEvents : Obligations.ControllerEvents := by
  refine fun c s => ⟨fun hp => ⟨fun hlt => ?_, fun hmid hie => boundary_midScreen_of_not_ie hie hp hmid,
    fun hmid hie => delivers_boundary_midScreen hie hp hmid⟩, fun hp => ⟨fun hlt => ?_, fun hend => ?_⟩⟩
  · exact boundary_of_lt_threshold (State.threshold_preMid hp ▸ hlt)
  · exact boundary_of_lt_threshold (State.threshold_preEnd hp ▸ hlt)
  · refine ⟨offer 2 (s.addCycles c), fun hie => offer_of_not_ie hie, fun hie => ?_, ?_⟩
    · rw [offer_of_ie (by simpa using hie)]
      exact delivers_deliver 2 { s with cyc := s.cyc + c }
    · rw [boundary_endOfFrame hp hend]

/-- Settles O38. -/
theorem haltedCpuIdles : Obligations.HaltedCpuIdles := by
  refine fun s hrun hhalt => ⟨step_halted hrun hhalt, fun hlt => ?_⟩
  rw [step_halted hrun hhalt, boundary_of_lt_threshold hlt, State.addCycles]

end Sys2Proof.Machine
end

section
/-! ## The frame counter, the parameters and the inputs over an instruction and a step (10_state.md R31, R43;
60_exceptions.md R265, R268) -/

namespace Sys2Proof.Machine

/-- Settles O56: an instruction other than EI and DI ignores the whole interrupt controller and keeps IE. -/
theorem instructionsIgnoreCycleCounter : Obligations.InstructionsIgnoreCycleCounter := by
  intro i s n ph
  by_cases hei : i = .ei
  · subst hei; rfl
  · by_cases hdi : i = .di
    · subst hdi; rfl
    · obtain ⟨t, ht, he⟩ := exec_effect i s
      have hie : t.ie = s.ie := he.ie.resolve_right fun h => h.elim (fun h => hei h.1) (fun h => hdi h.1)
      calc exec i { s with cyc := n, phase := ph }
        _ = onNext (fun u => u.withControl s.ie n ph) (exec i s) := exec_withControl hei hdi s s.ie n ph
        _ = .next { t with cyc := n, phase := ph } := by rw [ht, onNext, ← hie, State.withControl]
        _ = _ := by rw [ht]

/-- A step is an instruction's effect, then a boundary unless the effect was the fault. The step of a halted CPU is the
boundary after no effect. The cost is at least 1 if a conditional jump not taken costs as much. -/
theorem step_effect_boundary {s t : State} (h : step s = .next t) :
    ∃ u, Effect (fetch s) s u ∧
      ((u.status = .running ∧
          ∃ cost, (1 ≤ s.params.jccNotTakenCycles → 1 ≤ cost) ∧ t = boundary cost u) ∨
        (u.status ≠ .running ∧ t = u)) := by
  obtain ⟨hs, ⟨-, rfl⟩ | ⟨-, u, -, he, ⟨hu, rfl⟩ | ⟨hu, rfl⟩⟩⟩ := step_cases h
  · exact ⟨s, (quiet_refl s).effect, .inl ⟨hs, 7, fun _ => by decide, rfl⟩⟩
  · exact ⟨u, he, .inl ⟨hu, cycles (fetch s) s, cycles_pos (fetch s) s, rfl⟩⟩
  · exact ⟨t, he, .inr ⟨hu, rfl⟩⟩

/-- No step changes the parameters (R43). -/
theorem step_params {s t : State} (h : step s = .next t) : t.params = s.params := by
  obtain ⟨u, he, ⟨-, cost, -, rfl⟩ | ⟨-, rfl⟩⟩ := step_effect_boundary h
  · exact (boundary_effect cost u).params.trans he.params
  · exact he.params

/-- Where the input bytes go over a step: kept, or the next snapshot where a frame ends (R268). -/
theorem step_input {s t : State} (h : step s = .next t) :
    (t.input = s.input ∧ t.upcoming = s.upcoming) ∨
    (s.phase = .preEnd ∧ t.phase = .preMid ∧
      t.input = s.upcoming.headD s.input ∧ t.upcoming = s.upcoming.tail) := by
  obtain ⟨u, he, ⟨-, cost, -, rfl⟩ | ⟨-, rfl⟩⟩ := step_effect_boundary h
  · rw [← he.input, ← he.upcoming, ← he.phase]
    exact boundary_input cost u
  · exact .inl ⟨he.input, he.upcoming⟩

/-- Settles O55: the input bytes are kept, or are the head of the queue where there is one. -/
theorem parametersAndInputsAreFixed : Obligations.ParametersAndInputsAreFixed := by
  refine ⟨fun s t hstep => ⟨step_params hstep, ?_⟩, fun _ _ => rfl⟩
  obtain ⟨hin, hq⟩ | ⟨hs, ht, hin, -⟩ := step_input hstep
  · exact ⟨fun _ => ⟨hin, hq, fun p hp => State.portIn_congr hin hp⟩, .inl hin⟩
  · refine ⟨fun hnot => absurd ⟨hs, ht⟩ hnot, ?_⟩
    cases hup : s.upcoming with
    | nil => exact .inl (by rw [hin, hup, List.headD_nil])
    | cons snap rest => exact .inr (by rw [hin, hup, List.headD_cons, List.head?_cons])

end Sys2Proof.Machine
end

section
/-! ## The frame loop (60_exceptions.md R251, R255, R263, R264) -/

namespace Sys2Proof.Machine

/-! ### One pass of the loop -/

theorem frameLoop_succ_faulted {s : State} {code : FaultCode} {pc : Word} {op : Byte}
    (h : s.status = .faulted code pc op) (fuel : Nat) : frameLoop (fuel + 1) s = .faulted code pc op s := by
  rw [frameLoop, h]

/-- A step from PreEnd to PreMid ends the frame. -/
theorem frameLoop_succ_frame {s t : State} (hrun : s.status = .running) (hstep : step s = .next t)
    (hs : s.phase = .preEnd) (ht : t.phase = .preMid) (fuel : Nat) : frameLoop (fuel + 1) s = .frame t := by
  simp only [frameLoop, hrun, hstep, hs, ht]

/-- After any other step the loop goes on. -/
theorem frameLoop_succ_step {s t : State} (hrun : s.status = .running) (hstep : step s = .next t)
    (h : ¬ (s.phase = .preEnd ∧ t.phase = .preMid)) (fuel : Nat) : frameLoop (fuel + 1) s = frameLoop fuel t := by
  simp only [frameLoop, hrun, hstep]
  split
  next hs ht => exact absurd ⟨hs, ht⟩ h
  next => rfl

/-- A boundary from PreEnd to PreMid leaves the counter at 0 and the picture of the memory it leaves (R264). -/
theorem boundary_of_frame_end {cost : Nat} {s : State} (hs : s.phase = .preEnd)
    (ht : (boundary cost s).phase = .preMid) :
    (boundary cost s).cyc = 0 ∧ (boundary cost s).framebuffer = some (rasterize (boundary cost s)) := by
  by_cases hend : s.params.tEnd ≤ s.cyc + cost
  · rw [boundary_endOfFrame hs hend]
    exact ⟨rfl, congrArg some (rasterize_congr rfl)⟩
  · rw [boundary_of_lt_threshold (State.threshold_preEnd hs ▸ not_le.mp hend), State.addCycles_phase, hs] at ht
    cases ht

/-- The step that ends a frame is the end-of-frame event: a running machine at cyc = 0 with the picture of its own
memory (R264). -/
theorem step_endOfFrame {s t : State} (hstep : step s = .next t) (hs : s.phase = .preEnd) (ht : t.phase = .preMid) :
    t.status = .running ∧ t.cyc = 0 ∧ t.framebuffer = some (rasterize t) := by
  obtain ⟨u, he, ⟨hu, cost, -, rfl⟩ | ⟨-, rfl⟩⟩ := step_effect_boundary hstep
  · obtain ⟨hcyc, hpicture⟩ := boundary_of_frame_end (he.phase.trans hs) ht
    exact ⟨(boundary_effect cost u).status.trans hu, hcyc, hpicture⟩
  · rw [he.phase, hs] at ht
    cases ht

/-! ### The answer of the loop (R251, R264) -/

/-- What an answer of run_frame says of its state: a frame ended with the step from some state in PreEnd to PreMid; a
fault is the status of the state. -/
def FrameResult.Sound : FrameResult → Prop
  | .frame t => ∃ s, step s = .next t ∧ s.phase = .preEnd ∧ t.phase = .preMid
  | .faulted code pc op t => t.status = .faulted code pc op
  | .unfinished _ => True

theorem sound_frameLoop (fuel : Nat) (s : State) : (frameLoop fuel s).Sound := by
  induction fuel generalizing s with
  | zero => trivial
  | succ fuel ih =>
    cases hs : s.status with
    | faulted code pc op => rw [frameLoop_succ_faulted hs]; exact hs
    | running =>
      obtain ⟨t, hstep, -⟩ := step_of_running hs
      by_cases hend : s.phase = .preEnd ∧ t.phase = .preMid
      · obtain ⟨hp, hq⟩ := hend
        rw [frameLoop_succ_frame hs hstep hp hq]
        exact ⟨s, hstep, hp, hq⟩
      · rw [frameLoop_succ_step hs hstep hend]
        exact ih t

theorem sound_runFrame (fuel : Nat) (snap : Snapshot) (s : State) : (runFrame fuel snap s).Sound := by
  unfold runFrame
  split
  next => exact sound_frameLoop fuel _
  next h => exact h

/-- Settles O60: a frame handed out came from a step that ended one. -/
theorem frameHandsOutTheVideoPicture : Obligations.FrameHandsOutTheVideoPicture := by
  intro fuel snap s
  have hsound := sound_runFrame fuel snap s
  refine ⟨fun t ht => ?_, fun code pc op t ht => ?_⟩
  · rw [ht] at hsound
    obtain ⟨r, hstep, hr, hp⟩ := hsound
    obtain ⟨hrun, hcyc, hpicture⟩ := step_endOfFrame hstep hr hp
    exact ⟨hrun, hcyc, hp, hpicture⟩
  · rw [ht] at hsound
    exact hsound

/-! ### Every frame ends (R255, R262) -/

/-- A bound on the steps to the end of the frame, for a loop that counts the pass that reports a fault: each step
brings the counter closer to the threshold of the phase, and the mid-screen event leaves it at 1 or more. -/
def State.stepsLeft (s : State) : Nat :=
  match s.phase with
  | .preMid => (s.params.tMid - s.cyc) + s.params.tEnd + 2
  | .preEnd => (s.params.tEnd - s.cyc) + 2

theorem State.stepsLeft_preMid {s : State} (hp : s.phase = .preMid) :
    s.stepsLeft = (s.params.tMid - s.cyc) + s.params.tEnd + 2 := by rw [State.stepsLeft, hp]

theorem State.stepsLeft_preEnd {s : State} (hp : s.phase = .preEnd) :
    s.stepsLeft = (s.params.tEnd - s.cyc) + 2 := by rw [State.stepsLeft, hp]

theorem State.two_le_stepsLeft (s : State) : 2 ≤ s.stepsLeft := by
  unfold State.stepsLeft
  split <;> exact Nat.le_add_left _ _

theorem State.stepsLeft_le (s : State) : s.stepsLeft ≤ s.params.tMid + s.params.tEnd + 2 := by
  unfold State.stepsLeft
  split <;> omega

/-- An offered interrupt never lowers the counter (R257). -/
theorem le_offer_cyc (n : Fin 8) (s : State) : s.cyc ≤ (offer n s).cyc := by
  cases h : s.ie
  · rw [offer_of_not_ie h]
  · rw [offer_of_ie h, deliver_cyc]
    exact Nat.le_add_right _ _

/-- A boundary of positive cost that does not end the frame lowers the bound. -/
theorem stepsLeft_boundary_lt {cost : Nat} {s : State} (hcost : 1 ≤ cost) (hok : s.params.ok)
    (h : ¬ (s.phase = .preEnd ∧ (boundary cost s).phase = .preMid)) : (boundary cost s).stepsLeft < s.stepsLeft := by
  obtain ⟨e, hlt⟩ | ⟨hp, -, e⟩ | ⟨hp, -, e⟩ := boundary_cases cost s
  · rw [e]
    cases hp : s.phase <;> simp only [hp] at hlt
    · rw [State.stepsLeft_preMid hp, State.stepsLeft_preMid (by simpa using hp)]
      simp only [State.addCycles_params, State.addCycles_cyc]
      omega
    · rw [State.stepsLeft_preEnd hp, State.stepsLeft_preEnd (by simpa using hp)]
      simp only [State.addCycles_params, State.addCycles_cyc]
      omega
  · have hcyc : s.cyc + cost ≤ (offer 1 (s.addCycles cost)).cyc := le_offer_cyc 1 (s.addCycles cost)
    rw [e, State.stepsLeft_preMid hp, State.stepsLeft_preEnd rfl]
    obtain ⟨hmid, hend⟩ := hok
    simp only [offer_params, State.addCycles_params]
    omega
  · exact absurd ⟨hp, by rw [e]⟩ h

/-- So does a step that neither ends the frame nor faults. -/
theorem stepsLeft_step_lt {s t : State} (hstep : step s = .next t) (hrun : t.status = .running)
    (hok : s.params.ok) (hjcc : 1 ≤ s.params.jccNotTakenCycles) (h : ¬ (s.phase = .preEnd ∧ t.phase = .preMid)) :
    t.stepsLeft < s.stepsLeft := by
  obtain ⟨u, he, ⟨-, cost, hcost, rfl⟩ | ⟨hu, rfl⟩⟩ := step_effect_boundary hstep
  · have hleft : u.stepsLeft = s.stepsLeft := by
      simp only [State.stepsLeft, he.phase, he.params, he.cyc]
    rw [← hleft]
    exact stepsLeft_boundary_lt (hcost hjcc) (he.params ▸ hok) (he.phase ▸ h)
  · exact absurd hrun hu

/-- How a frame may end: with its picture, or because the session faulted (R251, R263). -/
def FrameResult.Ended (r : FrameResult) : Prop :=
  (∃ t, r = .frame t) ∨ ∃ pc op t, r = .faulted .unimplementedOpcode pc op t

theorem ended_frameLoop {fuel : Nat} {s : State} (hrun : s.status = .running) (hok : s.params.ok)
    (hjcc : 1 ≤ s.params.jccNotTakenCycles) (hfuel : s.stepsLeft ≤ fuel) : (frameLoop fuel s).Ended := by
  induction fuel generalizing s with
  | zero => exact absurd (s.two_le_stepsLeft.trans hfuel) (by decide)
  | succ fuel ih =>
    obtain ⟨t, hstep, ht⟩ := step_of_running hrun
    by_cases hend : s.phase = .preEnd ∧ t.phase = .preMid
    · obtain ⟨hp, hq⟩ := hend
      exact .inl ⟨t, frameLoop_succ_frame hrun hstep hp hq fuel⟩
    · rw [frameLoop_succ_step hrun hstep hend]
      obtain htrun | ⟨-, -, -, op, htfault⟩ := ht
      · have hlt := stepsLeft_step_lt hstep htrun hok hjcc hend
        exact ih htrun (step_params hstep ▸ hok) (step_params hstep ▸ hjcc) (by omega)
      · obtain ⟨k, rfl⟩ : ∃ k, fuel = k + 1 := Nat.exists_eq_add_one.mpr (by have := s.two_le_stepsLeft; omega)
        exact .inr ⟨s.pc, op, t, frameLoop_succ_faulted htfault k⟩

/-- Settles O59: every pass of the loop that goes on lowers `stepsLeft`, which starts within T_MID + T_END + 2. -/
theorem everyFrameEndsOrFaults : Obligations.EveryFrameEndsOrFaults := by
  intro fuel snap s hrun hok hjcc hfuel
  have hrun' : (s.beginFrame snap).status = .running := hrun
  rw [runFrame, hrun]
  exact ended_frameLoop hrun' hok hjcc ((s.beginFrame snap).stepsLeft_le.trans hfuel)

end Sys2Proof.Machine
end

section
/-! ## The ROM image (20_memory.md R53, 70_reset_and_hazards.md R281, R282) -/

namespace Sys2Proof.Machine

/-! ### The load and its check -/

/-- Four parts of 2048 bytes are placed from 0x0000 up (R281). -/
theorem loadRom_of_whole {parts : List (List Byte)} (h : parts.map List.length = [2048, 2048, 2048, 2048]) (s : State) :
    s.loadRom parts = { s with mem := Memory.load s.mem 0x0000 parts.flatten } := if_pos h

/-- Any other image is refused (R282). -/
theorem loadRom_of_not_whole {parts : List (List Byte)} (h : parts.map List.length ≠ [2048, 2048, 2048, 2048])
    (s : State) : s.loadRom parts = { s with status := .faulted .romLoadMismatch 0x0000 0x00 } := if_neg h

theorem length_flatten_of_whole {parts : List (List Byte)} (h : parts.map List.length = [2048, 2048, 2048, 2048]) :
    parts.flatten.length = 8192 := by
  rw [List.length_flatten, h]
  rfl

/-- After the load a ROM address reads its byte of the image; every other address reads as before. -/
theorem memRead_loadRom {parts : List (List Byte)} (h : parts.map List.length = [2048, 2048, 2048, 2048]) (s : State)
    (x : Word) :
    (s.loadRom parts).memRead x = if isRom x then parts.flatten.getD (physical x) 0 else s.memRead x := by
  have hrange : (0 ≤ physical x ∧ physical x < 0 + parts.flatten.length) ↔ isRom x := by
    rw [isRom_iff, length_flatten_of_whole h]
    omega
  rw [loadRom_of_whole h, State.memRead, Memory.get_load, if_congr hrange rfl rfl]
  rfl

/-- Below 0x4000 a bus address is its own physical byte (R51). -/
theorem physical_ofNat {k : Nat} (hk : k < 0x4000) : physical (BitVec.ofNat 16 k) = k := by
  rw [physical_eq_mod, BitVec.toNat_ofNat]
  omega

/-- After the load address k of ROM reads byte k of the image (R281). -/
theorem memRead_loadRom_ofNat {parts : List (List Byte)} (h : parts.map List.length = [2048, 2048, 2048, 2048])
    (s : State) {k : Nat} (hk : k < 8192) :
    (s.loadRom parts).memRead (BitVec.ofNat 16 k) = parts.flatten.getD k 0 := by
  have hphys : physical (BitVec.ofNat 16 k) = k := physical_ofNat (by omega)
  have hrom : isRom (BitVec.ofNat 16 k) := by
    rw [isRom_iff, hphys]
    omega
  rw [memRead_loadRom h, if_pos hrom, hphys]

/-- Settles O48: a refused image leaves a faulted session, which has no step. -/
theorem romLoadIsChecked : Obligations.RomLoadIsChecked := by
  refine fun s parts => ⟨fun h => ⟨?_, fun k hk => memRead_loadRom_ofNat h s hk, fun x hx => ?_⟩, fun h => ?_⟩
  · rw [loadRom_of_whole h]
  · rw [memRead_loadRom h, if_neg hx]
  · have hfault : (s.loadRom parts).status = .faulted .romLoadMismatch 0x0000 0x00 := by rw [loadRom_of_not_whole h]
    refine ⟨hfault, rfl, fun t ht => ?_⟩
    rw [step_faulted hfault] at ht
    cases ht

/-! ### ROM over a step -/

/-- A step changes memory through the bus alone: by its instruction's stores and by the push of a delivered
interrupt. -/
theorem onlyBusWrites_step {s t : State} (h : step s = .next t) : OnlyBusWrites s.mem t.mem := by
  obtain ⟨u, he, ⟨-, cost, -, rfl⟩ | ⟨-, rfl⟩⟩ := step_effect_boundary h
  · exact he.mem.trans (boundary_effect cost u).mem
  · exact he.mem

/-- Settles O51: the bus drops every store to ROM. -/
theorem romIsLoadedAndNeverChanges : Obligations.RomIsLoadedAndNeverChanges :=
  ⟨fun s _ _ h hk => memRead_loadRom_ofNat h s hk, fun _ _ x hx hstep => (onlyBusWrites_step hstep).rom x hx⟩

end Sys2Proof.Machine
end

section
/-! ## A halted CPU with interrupts disabled (60_exceptions.md R262, 70_reset_and_hazards.md R290) -/

namespace Sys2Proof.Machine

/-- A session has a step exactly while it runs (R251). -/
theorem exists_step_iff (s : State) : (∃ t, step s = .next t) ↔ s.status = .running := by
  constructor
  · rintro ⟨t, hstep⟩
    exact (step_cases hstep).1
  · intro hrun
    obtain ⟨t, hstep, -⟩ := step_of_running hrun
    exact ⟨t, hstep⟩

/-- With IE = 0 the end-of-frame event draws the picture, takes the next inputs and starts the next frame (R256,
R264). -/
theorem boundary_endOfFrame_of_not_ie {cost : Nat} {s : State} (hie : s.ie = false) (hp : s.phase = .preEnd)
    (hend : s.params.tEnd ≤ s.cyc + cost) :
    boundary cost s =
      { s with framebuffer := some (rasterize s), cyc := 0, phase := .preMid, input := s.upcoming.headD s.input,
               upcoming := s.upcoming.tail } := by
  rw [boundary_endOfFrame hp hend, offer_of_not_ie (by simpa using hie)]
  rfl

/-- From s to t no register, flag or byte of memory changed; the picture and the input bytes did where a frame ended,
and there alone (R263, R268). -/
structure Idles (s t : State) : Prop where
  frame : t = { s with cyc := t.cyc, phase := t.phase, framebuffer := t.framebuffer, input := t.input,
                       upcoming := t.upcoming }
  inside : ¬ (s.phase = .preEnd ∧ t.phase = .preMid) →
    t.framebuffer = s.framebuffer ∧ t.input = s.input ∧ t.upcoming = s.upcoming
  frameEnd : s.phase = .preEnd ∧ t.phase = .preMid →
    t.framebuffer = some (rasterize s) ∧ t.input = s.upcoming.headD s.input ∧ t.upcoming = s.upcoming.tail

/-- Where only cyc and phase change and no frame ends, the machine idles. -/
theorem idles_cyc_phase {s : State} {ph : Phase} (h : ¬ (s.phase = .preEnd ∧ ph = .preMid)) (n : Nat) :
    Idles s { s with cyc := n, phase := ph } where
  frame := rfl
  inside _ := ⟨rfl, rfl, rfl⟩
  frameEnd hend := absurd hend h

/-- With IE = 0 every boundary idles: both events skip their interrupt. -/
theorem idles_boundary_of_not_ie {s : State} (hie : s.ie = false) (cost : Nat) : Idles s (boundary cost s) := by
  obtain ⟨h, -⟩ | ⟨hp, hmid, -⟩ | ⟨hp, hend, -⟩ := boundary_cases cost s
  · rw [h]
    exact idles_cyc_phase (fun ⟨hend, hmid⟩ => by simp [hend] at hmid) (s.cyc + cost)
  · rw [boundary_midScreen_of_not_ie hie hp hmid]
    exact idles_cyc_phase (fun ⟨hend, _⟩ => by simp [hp] at hend) (s.cyc + cost)
  · rw [boundary_endOfFrame_of_not_ie hie hp hend]
    exact ⟨rfl, fun h => absurd ⟨hp, rfl⟩ h, fun _ => ⟨rfl, rfl, rfl⟩⟩

/-- An idle machine keeps its picture (R75). -/
theorem Idles.rasterize_eq {s t : State} (h : Idles s t) : rasterize t = rasterize s :=
  rasterize_congr ((congrArg State.mem h.frame).trans rfl)

/-- Settles O58: the step of a halted CPU is a boundary, and with IE = 0 a boundary idles. -/
theorem haltedWithInterruptsDisabledIsQuiescent : Obligations.HaltedWithInterruptsDisabledIsQuiescent := by
  refine ⟨exists_step_iff, fun s hrun hhalt hie => ⟨boundary 7 s, step_halted hrun hhalt, ?_⟩⟩
  have hidle : Idles s (boundary 7 s) := idles_boundary_of_not_ie hie 7
  exact ⟨hidle.frame, hidle.inside, hidle.frameEnd, hidle.rasterize_eq⟩

end Sys2Proof.Machine
end

section
/-! ## The spec's table of examples (95_test_vectors.md section 2.1) -/

namespace Sys2Proof

/-- A list of bytes that is the encoding of an instruction decodes to it, with no byte left over (R100, R101). -/
theorem toOption_decode_of_encode {i : Instr} {bytes : List Byte} (h : encode i = bytes) :
    (decode bytes).toOption = some (i, []) := by
  have hdec : decode (encode i ++ []) = .ok (i, []) := decodeEncodeRoundTrip i []
  rw [← h, ← List.append_nil (encode i), hdec]
  rfl

/-- Settles O43: each row of the table is the encoding of its instruction, which decodes to it. -/
theorem sampleWordsDecode : Obligations.SampleWordsDecode := by
  unfold Obligations.SampleWordsDecode
  and_intros <;> exact toOption_decode_of_encode rfl

end Sys2Proof
end
